-- ==== Sys2Proof/Word.lean ====
section
/-! DEFINITION. The word types of the part's serial links: a byte of the host link and a 16-bit gauge word of the pack bus
(sections 9.1 and 2.2). Every other quantity of the manual is an integer (section 0.5) and is a `Nat` or an `Int`. -/
namespace Sys2Proof

/-- One byte of a host link frame (section 9.1). -/
abbrev Byte := BitVec 8

/-- One 16-bit field word of a pack's gauge (section 2.2). -/
abbrev Word16 := BitVec 16

end Sys2Proof
end

