-- ==== Sys2Proof/Syntax.lean ====
section
/-! DEFINITION. The commands of the P640: one constructor of `Instr` per row of spec/opcode_table.json, with the operands
that the event carries from outside the part. -/
namespace Sys2Proof

/-- The two pack slots (section 2.1). -/
inductive PackId where
  | a | b
deriving DecidableEq, Repr

/-- The two fans (section 0.2). -/
inductive FanId where
  | f0 | f1
deriving DecidableEq, Repr

/-- The two sequenced system rails (section 7.1). -/
inductive Rail where
  | main | core
deriving DecidableEq, Repr

/-- The two inputs that the PSQ debounces (section 7.7). -/
inductive DebouncedInput where
  | button | lid
deriving DecidableEq, Repr

/-- The status of a sensor reading (section 4.1). -/
inductive SensorStatus where
  | normal | openWire | shorted
deriving DecidableEq, Repr

/-- The level of a strap input (section 10.1). -/
inductive StrapLevel where
  | low | openPin | high
deriving DecidableEq, Repr

/-- The levels of the six strap inputs (section 10.1). -/
structure StrapLevels where
  packCount  : StrapLevel
  fanCount   : StrapLevel
  senseLines : StrapLevel
  diodes     : StrapLevel
  linkRate   : StrapLevel
  autoOn     : StrapLevel
deriving DecidableEq, Repr

/-- The three presence lines, `true` for high (R3, R23). -/
structure PresenceLevels where
  adapter : Bool
  packA   : Bool
  packB   : Bool
deriving DecidableEq, Repr

/-- The input levels the part reads in a power-on or pin reset event (R3, R48, R140, R180), with the levels of the inputs
it goes on following (HRDY and the two power-good inputs). `lidClosed` is `true` for a closed lid. -/
structure Pins where
  straps    : StrapLevels
  presence  : PresenceLevels
  button    : Bool
  lidClosed : Bool
  mainGood  : Bool
  coreGood  : Bool
  hrdy      : Bool
deriving DecidableEq, Repr

/-- One offer of an ABILITY: millivolts and milliamps (section 1.3). -/
structure Offer where
  voltage : Nat
  current : Nat
deriving DecidableEq, Repr

/-- Why a received frame is discarded: reasons 1 and 2 of LINK_CHECK's detail (R170). -/
inductive BadFrameReason where
  | checkFailed | lengthAbove56
deriving DecidableEq, Repr

/-- The commands. A host request carries its frame's TAG and payload bytes; the payload's length is the frame's LEN. -/
inductive Instr where
  | powerOnReset (pins : Pins)
  | pinReset (pins : Pins)
  /-- `lines` are the presence lines as read if the soft reset is taken in this event (R3, R49). -/
  | resetTimerExpiry (lines : PresenceLevels)
  /-- The measured bus voltage and system current, before the clamp of R1. -/
  | powerSample (vBus iSys : Int)
  | adapterPresenceRise
  | adapterPresenceFall
  | ability (checkOk : Bool) (offers : List Offer)
  | accept (checkOk : Bool) (index : Nat)
  | reject (checkOk : Bool) (index : Nat)
  | ready (checkOk : Bool) (index : Nat)
  | abilityTimerExpiry
  | selectTimerExpiry
  | readyTimerExpiry
  | adapterRenegotiate (tag : Byte) (payload : List Byte)
  | packPresenceRise (p : PackId)
  | packPresenceFall (p : PackId)
  | pollTimerExpiry (p : PackId)
  | busOperationStart
  /-- `current`: the response answers the read request of the operation now on the bus (R26; DESIGN CHOICE,
  notes/assumptions/15.md). -/
  | pollResponse (p : PackId) (current checkOk : Bool) (words : List Word16)
  | pollTimeout (p : PackId)
  | rawReadResponse (p : PackId) (current checkOk : Bool) (words : List Word16)
  | rawReadTimeout (p : PackId)
  | packReport (tag : Byte) (payload : List Byte)
  | packRawRead (tag : Byte) (payload : List Byte)
  | packAccumClear (tag : Byte) (payload : List Byte)
  | overdrawTimerExpiry
  | chargeControl (tag : Byte) (payload : List Byte)
  | powerReport (tag : Byte) (payload : List Byte)
  | sensorReading (n : Fin 4) (status : SensorStatus) (value : Int)
  | tachReport (f : FanId) (rpm : Nat)
  | fanCurveWrite (tag : Byte) (payload : List Byte)
  | fanControl (tag : Byte) (payload : List Byte)
  | thermalReport (tag : Byte) (payload : List Byte)
  /-- Bit c of `snapshot` is set when the key of code c reads down in this pass (R99). -/
  | scanPass (snapshot : BitVec 144)
  /-- Bit l of `active` is set when sense line l reads active (R104). -/
  | activityPass (active : BitVec 18)
  | handOff
  | resync
  | keyControl (tag : Byte) (payload : List Byte)
  | keyStateRead (tag : Byte) (payload : List Byte)
  | hotkeyWindowWrite (tag : Byte) (payload : List Byte)
  | actionWrite (tag : Byte) (payload : List Byte)
  | actionExecute
  /-- The new raw level: pressed for the button, closed for the lid. -/
  | rawLevelChange (i : DebouncedInput) (level : Bool)
  | stabilityTimerExpiry (i : DebouncedInput)
  | heldStartProceed
  | permissionWaitTimerExpiry
  | powerGoodRise (r : Rail)
  | powerGoodFall (r : Rail)
  | powerGoodTimerExpiry
  | settleTimerExpiry
  | fallTimerExpiry
  | holdTimerExpiry
  | lidTimerExpiry
  | wakeTimerExpiry
  | wakeTimerSet (tag : Byte) (payload : List Byte)
  | powerStateRequest (tag : Byte) (payload : List Byte)
  | watchdogExpiry
  | watchdogKick (tag : Byte) (payload : List Byte)
  | faultDone (tag : Byte) (payload : List Byte)
  | faultLogRead (tag : Byte) (payload : List Byte)
  | faultLogClear (tag : Byte) (payload : List Byte)
  | retainedRead (tag : Byte) (payload : List Byte)
  | retainedClear (tag : Byte) (payload : List Byte)
  | badFrame (kind : Byte) (reason : BadFrameReason)
  | interByteTimerExpiry
  | unknownKind (kind tag : Byte) (payload : List Byte)
  | hrdyAssert
  | hrdyDeassert
  | frameStart
  /-- `lines` are the presence lines as read if the soft reset is taken in this event (R3, R49). -/
  | frameEnd (lines : PresenceLevels)
  | arbiterWrite (tag : Byte) (payload : List Byte)
  | partReset (tag : Byte) (payload : List Byte)
  | settingRead (tag : Byte) (payload : List Byte)
  | settingWrite (tag : Byte) (payload : List Byte)
  | identify (tag : Byte) (payload : List Byte)
  | receiveByte (b : Byte)
deriving DecidableEq, Repr

end Sys2Proof
end

