-- ==== Sys2Proof/Decode.lean ====
section
/-! DEFINITION. The command that a word spells by the opcode table's bits. -/
namespace Sys2Proof

/-- The command a word spells. No row of spec/opcode_table.json gives bits: the commands are events and requests, whose
operands come from outside the part, so no word spells one. A request reaches the part as bytes of the host link, each of
them a RECEIVE_BYTE command. -/
def decodeTableWord (_nbits _w : Nat) : Option Instr := none

end Sys2Proof
end

