-- ==== Sys2Proof/Config.lean ====
section
/-! DEFINITION. What the manual fixes for every P640, whatever the board: the identification constants of R186 and the
capacities of the part's queues. The manual leaves no value open, so there is no free value here (INVENTORY.md). -/
namespace Sys2Proof.Config

/-- The part code that IDENTIFY reports (section 11.5). -/
def partCode : Nat := 0x0640
/-- The design revision (R186). -/
def designRevision : Nat := 1
/-- The number of settings that IDENTIFY reports (R186; SENSOR_OFFSET_0 to 3 count once, section 11.5). -/
def settingCount : Nat := 36

/-- Entries of the MXS pending list (R105). -/
def pendingCapacity : Nat := 16
/-- Entries of the action queue (section 6.5). -/
def actionCapacity : Nat := 4
/-- Notices of the notice queue (section 9.5). -/
def noticeCapacity : Nat := 16
/-- Notices of the urgent list (R177). -/
def urgentCapacity : Nat := 4
/-- The reply queue's count at which a request is discarded (R171). -/
def replyCapacity : Nat := 8
/-- Records of the fault log (R155). -/
def logCapacity : Nat := 16
/-- Reasons of the wake reason list (R138). -/
def wakeCapacity : Nat := 6
/-- Raw reads in flight (R43). -/
def rawReadCapacity : Nat := 2
/-- The longest payload of a frame (section 9.1). -/
def maxPayload : Nat := 56

end Sys2Proof.Config
end

