-- ==== Sys2Proof/Machine/Types.lean ====
section
/-! DEFINITION. The data types of the twelve blocks' state (section 0.3): plain data, one structure per block. -/
namespace Sys2Proof.Machine

/-- One value for each pack slot. -/
structure PerPack (α : Type) where
  a : α
  b : α
deriving DecidableEq, Repr

/-- One value for each fan. -/
structure PerFan (α : Type) where
  f0 : α
  f1 : α
deriving DecidableEq, Repr

/-- One value for each temperature sensor S0 to S3. -/
structure PerSensor (α : Type) where
  s0 : α
  s1 : α
  s2 : α
  s3 : α
deriving DecidableEq, Repr

/-! ### PIM (chapter 1) -/

/-- A power sample after the clamp of R1: millivolts and milliamps. -/
structure PowerSample where
  vBus : Nat
  iSys : Nat
deriving DecidableEq, Repr

/-- Power Input Monitor: the latest sample (R1, R2) and the adapter presence level (R3). -/
structure Pim where
  sample   : Option PowerSample
  presence : Bool
deriving DecidableEq, Repr

/-! ### ADN (chapter 1) -/

/-- Adapter states (section 1.4). -/
inductive AdnState where
  | detached | querying | selecting | switching | contract | legacy | rejected
deriving DecidableEq, Repr

/-- The source of a contract record (R18). -/
inductive ContractSource where
  | negotiated | legacy
deriving DecidableEq, Repr

/-- The contract record (R18). -/
structure Contract where
  source     : ContractSource
  offerIndex : Option Nat
  voltage    : Nat
  current    : Nat
  score      : Nat
  pContract  : Nat
deriving DecidableEq, Repr

/-- Adapter Negotiator (section 1.4). `timer` is the remaining time of the ability, select or ready timer, whichever
state's it is (R6). `candidates` holds offer indices in the order of R12's ranking. -/
structure Adn where
  state       : AdnState
  offers      : List Offer
  candidates  : List Nat
  tried       : List Nat
  outstanding : Option Nat
  timer       : Option Nat
  record      : Option Contract
  pContract   : Nat
deriving DecidableEq, Repr

/-! ### PBC (chapter 2) -/

/-- Pack states (section 2.5). -/
inductive PackState where
  | absent | ident | ready | charging | full | discharging | halted
deriving DecidableEq, Repr

/-- HALTED causes (R33). -/
inductive HaltCause where
  | gaugeSilent | packHot | packOvervolt
deriving DecidableEq, Repr

/-- The seven interpreted gauge fields, clamped as R26 gives (section 2.2). -/
structure Gauge where
  voltage            : Nat
  current            : Int
  temperature        : Int
  relCharge          : Nat
  ireq               : Nat
  reqVoltage         : Nat
  full               : Bool
  overTemp           : Bool
  overVoltage        : Bool
  terminateDischarge : Bool
deriving DecidableEq, Repr

/-- A pack record (section 2.5) with its poll timer (R28). -/
structure Pack where
  state     : PackState
  seated    : Bool
  gauge     : Option Gauge
  failCount : Nat
  cause     : Option HaltCause
  accum     : Int
  lastPoll  : Option Nat
  low       : Bool
  critical  : Bool
  pollTimer : Option Nat
deriving DecidableEq, Repr

/-- What a pack bus operation is for (R27). A raw read keeps the TAG of the request it will answer, and stands for that
request's entry in the in-flight list (section 9.3). -/
inductive BusOpKind where
  | poll
  | rawRead (field : Nat) (tag : Byte)
deriving DecidableEq, Repr

/-- An entry of the bus operation list (R27). `gone` records that the pack fell while the operation was on the bus, so
that a poll's result is discarded and a raw read is answered ABSENT (R25, R44). -/
structure BusOp where
  pack : PackId
  kind : BusOpKind
  gone : Bool
deriving DecidableEq, Repr

/-- Pack Bus Controller. `busTimer` is the response timer of the head, present while the head is on the bus (R26).
`connected` is the set in force, which is the state of the path switches: `true` for closed (R40). -/
structure Pbc where
  packs     : PerPack Pack
  ops       : List BusOp
  busTimer  : Option Nat
  connected : PerPack Bool
deriving DecidableEq, Repr

/-! ### CBU (chapter 3) -/

/-- Power path modes (section 3.1). `noSource` is the manual's NONE. -/
inductive Mode where
  | noSource | batteryOnly | assist | overdraw | adapterOnly | adapterCharging
deriving DecidableEq, Repr

/-- Evaluation triggers (R50). -/
inductive Trigger where
  | sample | contract | pack | derate | latch | setting | control | reset
deriving DecidableEq, Repr

/-- What stages 4 to 6 record of a pack in C (R68). -/
structure Share where
  vC     : Nat
  ireq   : Nat
  weight : Nat
  q      : Nat
  share  : Nat
  i      : Nat
deriving DecidableEq, Repr

/-- The per-pack part of the budget record (R68). `iApp` is the pack's charger set point output (R62). -/
structure PackBudget where
  eligible : Bool
  inC      : Option Share
  iSet     : Nat
  iApp     : Nat
deriving DecidableEq, Repr

/-- The budget record (R68). -/
structure Budget where
  trigger   : Trigger
  sample    : Option PowerSample
  pContract : Nat
  r         : Nat
  d         : Nat
  latch     : Bool
  g         : Option Int
  h         : Nat
  hd        : Nat
  mode      : Mode
  connected : PerPack Bool
  overdraw  : Option Nat
  packs     : PerPack PackBudget
deriving DecidableEq, Repr

/-- Charge Budget Unit: the budget record and the CHARGE_CONTROL enables (R67). -/
structure Cbu where
  budget : Budget
  enable : PerPack Bool
deriving DecidableEq, Repr

/-! ### THM and FNC (chapter 4) -/

/-- The cause of an invalid reading (R73). -/
inductive SensorCause where
  | openWire | shorted | range
deriving DecidableEq, Repr

/-- The condition of a sensor slot (section 4.1). -/
inductive SensorCond where
  | pending | valid | marked
deriving DecidableEq, Repr

/-- A sensor slot (section 4.1). The mark's source is the slot's own sensor. -/
structure SensorSlot where
  cond    : SensorCond
  value   : Option Int
  invalid : Nat
  valid   : Nat
  mark    : Option SensorCause
deriving DecidableEq, Repr

/-- The aggregate (R76). -/
inductive Aggregate where
  | valid (value : Int) (source : Fin 4)
  | invalid (source : Fin 4) (cause : SensorCause)
  | pending
deriving DecidableEq, Repr

/-- Thermal Monitor. -/
structure Thm where
  slots     : PerSensor SensorSlot
  aggregate : Aggregate
  highArm   : Bool
  critArm   : Bool
  blind     : Bool
  d         : Nat
deriving DecidableEq, Repr

/-- Fan modes (section 4.6). -/
inductive FanMode where
  | auto | manual
deriving DecidableEq, Repr

/-- A fan slot (section 4.6). `applied` is the value on the fan's PWM output. -/
structure FanSlot where
  mode     : FanMode
  manual   : Nat
  computed : Option Nat
  applied  : Nat
  rpm      : Option Nat
  stall    : Nat
  grace    : Nat
  recovery : Nat
  degraded : Bool
deriving DecidableEq, Repr

/-- A point of a curve table (section 4.5). -/
structure CurvePoint where
  temp : Int
  duty : Nat
deriving DecidableEq, Repr

/-- Fan Controller (section 4.6). -/
structure Fnc where
  fans        : PerFan FanSlot
  prevBase    : Nat
  boost       : Nat
  quiet       : Bool
  curveOpen   : List CurvePoint
  curveClosed : List CurvePoint
deriving DecidableEq, Repr

/-! ### MXS and HKM (chapters 5 and 6) -/

/-- A key record (section 5.3); `true` is down or set. -/
structure KeyRec where
  raw       : Bool
  count     : Nat
  debounced : Bool
  reported  : Bool
  ghost     : Bool
  consumed  : Bool
  resync    : Bool
deriving DecidableEq, Repr

/-- A sense line record (section 5.3). -/
structure LineRec where
  isolated : Bool
  stuck    : Nat
  restore  : Nat
  activity : Nat
deriving DecidableEq, Repr

/-- The origin of a key transition (section 5.7). -/
inductive Origin where
  | scan | sweep | line | resync
deriving DecidableEq, Repr

/-- A key transition, an entry of the pending list and of the key queue (section 5.7, R108). -/
structure Transition where
  code   : Nat
  press  : Bool
  pass   : Nat
  origin : Origin
deriving DecidableEq, Repr

/-- Scanner conditions (section 5.2). -/
inductive MxsCond where
  | scanning | activity | suspended
deriving DecidableEq, Repr

/-- Matrix Scanner. `keys` has one record per code 0 to 143 and `lines` one per sense line 0 to 17. -/
structure Mxs where
  cond      : MxsCond
  enable    : Bool
  passTimer : Option Nat
  keys      : List KeyRec
  lines     : List LineRec
  passCount : Nat
  armed     : Bool
  pending   : List Transition
  queue     : List Transition
  stalled   : Bool
deriving DecidableEq, Repr

/-- A hotkey window (section 6.1). -/
structure Window where
  enabled     : Bool
  base        : Nat
  mask        : Nat
  translation : Nat
  consume     : Bool
deriving DecidableEq, Repr

/-- Action kinds (section 6.4). -/
inductive ActionKind where
  | nothing | fanBoostCycle | quietToggle | chargeLimitCycle | hostNotice
deriving DecidableEq, Repr

/-- An entry of the action table (section 6.4). -/
structure ActionEntry where
  kind     : ActionKind
  argument : Nat
deriving DecidableEq, Repr

/-- Hotkey Matcher: six windows, 64 action table entries, the action queue. -/
structure Hkm where
  windows : List Window
  actions : List ActionEntry
  queue   : List Nat
deriving DecidableEq, Repr

/-! ### PSQ (chapter 7) -/

/-- System power states (section 7.1). -/
inductive SysState where
  | off | seqUp | run | standby | seqDown | tripped
deriving DecidableEq, Repr

/-- Sequence steps (section 7.1). CORE_WAIT serves SEQ_UP and SEQ_DOWN. -/
inductive Step where
  | mainWait | coreWait | settle
deriving DecidableEq, Repr

/-- Start kinds (section 7.1). -/
inductive StartKind where
  | wake | request | escalation | autoOn | release
deriving DecidableEq, Repr

/-- Down targets (section 7.1). -/
inductive DownTarget where
  | standby | off | tripped
deriving DecidableEq, Repr

/-- Down causes (section 7.1). -/
inductive DownCause where
  | request | lidTimer | forcedOff | criticalOff | restart | protect
deriving DecidableEq, Repr

/-- Restart origins (section 7.1). -/
inductive RestartOrigin where
  | request | escalation
deriving DecidableEq, Repr

/-- The cause field of a STATE notice (R150). -/
inductive StateCause where
  | reset
  | start (k : StartKind)
  | down (c : DownCause)
deriving DecidableEq, Repr

/-- Wake reasons (R136). -/
inductive WakeReason where
  | button | lid | key | adapter | packLow | timer | restart
deriving DecidableEq, Repr

/-- Power Sequencer. Timers are remaining milliseconds, present while they run. `held` is the permission wait timer of a
held start (R135); `lidDelay` is the lid timer (R144); `buttonTimer` and `lidTimer` are the stability timers (R140). -/
structure Psq where
  state           : SysState
  mainOn          : Bool
  coreOn          : Bool
  hrst            : Bool
  mainGood        : Bool
  coreGood        : Bool
  step            : Option Step
  stepTimer       : Option Nat
  startKind       : Option StartKind
  downTarget      : Option DownTarget
  downCause       : Option DownCause
  restartOrigin   : Option RestartOrigin
  held            : Option Nat
  wakeList        : List WakeReason
  wakeArmed       : Bool
  wakeRemaining   : Nat
  buttonRaw       : Bool
  buttonConfirmed : Bool
  buttonTimer     : Option Nat
  lidRaw          : Bool
  lidConfirmed    : Bool
  lidTimer        : Option Nat
  pressTime       : Option Nat
  holdTimer       : Option Nat
  lidDelay        : Option Nat
deriving DecidableEq, Repr

/-! ### FLM (chapter 8) -/

/-- Fault causes (section 8.1). -/
inductive FaultCause where
  | thermCritical | railFault | overdrawHold
  | watchdogSecond
  | thermHigh | thermBlind | fansFailed | packOvervolt | powerDeficit | watchdogFirst
  | sensorLost | sensorRestored | fanStall | fanRestored | packSilent | packHot
  | keyLineStuck | keyLineRestored | adapterNoOffer | adapterRejected | linkCheck
  | bootDenied | forcedOff | railSlow | criticalOff
deriving DecidableEq, Repr

/-- Fault classes (section 8.1). -/
inductive FaultClass where
  | protect | escalate | urgent | advisory
deriving DecidableEq, Repr

/-- Fault sources (section 8.1). -/
inductive Source where
  | sensor (n : Fin 4)
  | fan (f : FanId)
  | pack (p : PackId)
  | keyline (s : Nat)
  | rail (r : Rail)
  | adapter
  | link
  | system
deriving DecidableEq, Repr

/-- A fault record (section 8.3). Its class follows from its cause (section 8.1). -/
structure FaultRecord where
  seq      : Nat
  cause    : FaultCause
  source   : Source
  detail   : Option Int
  sysState : SysState
deriving DecidableEq, Repr

/-- The PROTECT causes (section 8.1). -/
inductive ProtectCause where
  | thermCritical | railFault | overdrawHold
deriving DecidableEq, Repr

/-- The protection latch: for each PROTECT cause, absent from the set, or in it and set (`some true`) or clear
(`some false`) (section 8.6). -/
structure Latch where
  thermCritical : Option Bool
  railFault     : Option Bool
  overdrawHold  : Option Bool
deriving DecidableEq, Repr

/-- The retained summary (section 8.8). -/
structure Retained where
  protect     : Bool
  escalate    : Bool
  urgent      : Bool
  lastProtect : Option ProtectCause
  escalations : Nat
  uCopy       : Bool
  mCopy       : Bool
deriving DecidableEq, Repr

/-- Fault Manager. `marks` has one entry per source, in the order of the source codes of section 11.6. `watchdog` is the
remaining time in milliseconds while the timer runs. -/
structure Flm where
  log       : List FaultRecord
  counter   : Nat
  marks     : List (Option FaultCause)
  u         : Bool
  m         : Bool
  held      : Nat
  firstHeld : Option Nat
  latch     : Latch
  watchdog  : Option Nat
  retained  : Retained
deriving DecidableEq, Repr

/-! ### LNK (chapter 9) -/

/-- Reset kinds (R179). -/
inductive ResetKind where
  | powerOn | pin | soft
deriving DecidableEq, Repr

/-- The values an ADAPTER notice gives (R22). -/
structure AdapterView where
  state       : AdnState
  pContract   : Nat
  record      : Option Contract
  offerCount  : Nat
  outstanding : Option Nat
deriving DecidableEq, Repr

/-- The values a PACK notice gives (R47). -/
structure PackView where
  state     : PackState
  cause     : Option HaltCause
  seated    : Bool
  relCharge : Option Nat
  voltage   : Option Nat
  low       : Bool
  critical  : Bool
  connected : Bool
deriving DecidableEq, Repr

/-- The notices of the notice queue (sections 9.5 and 11.3). -/
inductive Notice where
  | advisory (r : FaultRecord)
  | advisoryPending (count first : Nat)
  | state (st : SysState) (cause : StateCause) (lidClosed : Bool)
  | wake (k : StartKind) (reasons : List WakeReason)
  | button (release : Bool) (held : Option Nat)
  | lid (closed : Bool)
  | adapter (v : AdapterView)
  | pack (p : PackId) (v : PackView)
  | hotkey (index : Nat) (kind : ActionKind) (value : Nat)
  | reset (k : ResetKind)
deriving DecidableEq, Repr

/-- An entry of the urgent list (R177). -/
structure UrgentNotice where
  record   : FaultRecord
  multiple : Bool
deriving DecidableEq, Repr

/-- A reply of the reply queue: KIND, TAG and payload bytes (R172, R189). -/
structure Reply where
  kind    : Byte
  tag     : Byte
  payload : List Byte
deriving DecidableEq, Repr

/-- The three sources of the phase table (section 9.4). -/
inductive ArbSource where
  | reply | key | notice
deriving DecidableEq, Repr

/-- The frame being sent. `carriesReset` says that it is the frame of a PART_RESET reply whose reset is pending (R178). -/
structure TxFrame where
  bytes        : List Byte
  carriesReset : Bool
deriving DecidableEq, Repr

/-- Framer phases (section 9.2). -/
inductive FramerPhase where
  | hunt | header | payload | check
deriving DecidableEq, Repr

/-- The receive framer (section 9.2). -/
structure Framer where
  phase   : FramerPhase
  header  : List Byte
  payload : List Byte
  sum     : Byte
  timer   : Option Nat
deriving DecidableEq, Repr

/-- Link Controller. `tx` is absent while the transmitter is IDLE (R168). `pendingReset` is the reset timer of a pending
PART_RESET (R178). The in-flight list is the raw reads of `Pbc.ops`. -/
structure Lnk where
  framer       : Framer
  replies      : List Reply
  notices      : List Notice
  overrun      : Bool
  urgent       : List UrgentNotice
  phases       : List ArbSource
  pointer      : Nat
  tx           : Option TxFrame
  hrdy         : Bool
  pendingReset : Option Nat
deriving DecidableEq, Repr

/-! ### SST (chapter 10) -/

/-- Sense line counts (section 10.1). -/
inductive SenseCount where
  | n12 | n16 | n18
deriving DecidableEq, Repr

/-- Host link rates (section 10.1). -/
inductive LinkRate where
  | b460800 | b921600 | b3000000
deriving DecidableEq, Repr

/-- The latched straps (R180). -/
structure Straps where
  twoPacks   : Bool
  twoFans    : Bool
  senseLines : SenseCount
  diodes     : Bool
  linkRate   : LinkRate
  autoOn     : Bool
deriving DecidableEq, Repr

/-- The settings, in identifier order (section 11.7). -/
inductive SettingId where
  | efficiency | powerCapMw | adapterVMin | adapterVMax | legacyMw
  | reserveMw | packWeightA | packWeightB | packImaxA | packImaxB | chargeLimit | packLowPct | packCritPct
  | derateStart | derateEnd | thermUrgent | thermCrit | sensorInclude
  | sensorOffset0 | sensorOffset1 | sensorOffset2 | sensorOffset3
  | fanHyst | fanMinDuty | fanStallRpm | quietCap | quietOverrideTemp | boostStep
  | debouncePasses | scanIntervalUs | keyQUpper | keyQLower
  | bootMinPct | buttonHoldMs | lidAction | lidDelayS | wakeMask
  | watchdogS | advisoryNotices
deriving DecidableEq, Repr

/-- The stored setting values, each a 32-bit signed value (section 10.2). -/
structure Settings where
  efficiency        : Int
  powerCapMw        : Int
  adapterVMin       : Int
  adapterVMax       : Int
  legacyMw          : Int
  reserveMw         : Int
  packWeightA       : Int
  packWeightB       : Int
  packImaxA         : Int
  packImaxB         : Int
  chargeLimit       : Int
  packLowPct        : Int
  packCritPct       : Int
  derateStart       : Int
  derateEnd         : Int
  thermUrgent       : Int
  thermCrit         : Int
  sensorInclude     : Int
  sensorOffset0     : Int
  sensorOffset1     : Int
  sensorOffset2     : Int
  sensorOffset3     : Int
  fanHyst           : Int
  fanMinDuty        : Int
  fanStallRpm       : Int
  quietCap          : Int
  quietOverrideTemp : Int
  boostStep         : Int
  debouncePasses    : Int
  scanIntervalUs    : Int
  keyQUpper         : Int
  keyQLower         : Int
  bootMinPct        : Int
  buttonHoldMs      : Int
  lidAction         : Int
  lidDelayS         : Int
  wakeMask          : Int
  watchdogS         : Int
  advisoryNotices   : Int
deriving DecidableEq, Repr

/-- Settings Store: settings, latched straps, the kind of the most recent reset and the two reset counts (R186). -/
structure Sst where
  settings  : Settings
  straps    : Straps
  resetKind : ResetKind
  pinCount  : Nat
  softCount : Nat
deriving DecidableEq, Repr

/-! ### Output lines -/

/-- The messages the part sends on the adapter link (section 1.3). -/
inductive AdapterMessage where
  | query
  | select (index : Nat)
deriving DecidableEq, Repr

/-- A write of one of the part's output lines. The manual orders some of these within an event (R17, R40, R55, R132). -/
inductive OutputWrite where
  | charger (p : PackId) (milliamps : Nat)
  | pathSwitch (p : PackId) (closed : Bool)
  | adapterLink (m : AdapterMessage)
  | packBusRead (p : PackId) (first count : Nat)
  | railEnable (r : Rail) (on : Bool)
  | hostReset (asserted : Bool)
deriving DecidableEq, Repr

end Sys2Proof.Machine
end

