-- ==== Sys2Proof/Machine/Params.lean ====
section
/-! DEFINITION. The numbers of the manual that the blocks use: timer durations, setting ranges and defaults, default tables,
and each block's state after a power-on reset. -/
namespace Sys2Proof.Machine

/-! ### Timer durations, in milliseconds -/

/-- Ability, select and ready timers (R6). -/
def abilityMs : Nat := 500
def selectMs : Nat := 50
def readyMs : Nat := 300
/-- The response timer of a pack bus operation (R26). -/
def responseMs : Nat := 35
/-- The overdraw timer (R63). -/
def overdrawMs : Nat := 2000
/-- The power-good, settle and fall timers (section 7.1). -/
def powerGoodMs : Nat := 30
def settleMs : Nat := 10
def fallMs : Nat := 50
/-- The permission wait timer (R135). -/
def permissionMs : Nat := 1000
/-- The stability timers of the button and the lid (R140). -/
def buttonStableMs : Nat := 20
def lidStableMs : Nat := 50
/-- The inter-byte timer (R169). -/
def interByteMs : Nat := 5
/-- The reset timer of a pending PART_RESET (R178). -/
def partResetMs : Nat := 100
/-- The scan passes after which a stuck line is isolated (R102). -/
def stuckPasses : Nat := 4000

/-! ### Settings (sections 10.2 and 11.7) -/

/-- Every setting identifier, in identifier order. -/
def allSettings : List SettingId :=
  [.efficiency, .powerCapMw, .adapterVMin, .adapterVMax, .legacyMw,
   .reserveMw, .packWeightA, .packWeightB, .packImaxA, .packImaxB, .chargeLimit, .packLowPct, .packCritPct,
   .derateStart, .derateEnd, .thermUrgent, .thermCrit, .sensorInclude,
   .sensorOffset0, .sensorOffset1, .sensorOffset2, .sensorOffset3,
   .fanHyst, .fanMinDuty, .fanStallRpm, .quietCap, .quietOverrideTemp, .boostStep,
   .debouncePasses, .scanIntervalUs, .keyQUpper, .keyQLower,
   .bootMinPct, .buttonHoldMs, .lidAction, .lidDelayS, .wakeMask,
   .watchdogS, .advisoryNotices]

/-- The 16-bit identifier of a setting (section 11.7). -/
def settingCode : SettingId → Nat
  | .efficiency => 0x0101 | .powerCapMw => 0x0102 | .adapterVMin => 0x0103 | .adapterVMax => 0x0104 | .legacyMw => 0x0105
  | .reserveMw => 0x0201 | .packWeightA => 0x0202 | .packWeightB => 0x0203 | .packImaxA => 0x0204 | .packImaxB => 0x0205
  | .chargeLimit => 0x0206 | .packLowPct => 0x0207 | .packCritPct => 0x0208
  | .derateStart => 0x0301 | .derateEnd => 0x0302 | .thermUrgent => 0x0303 | .thermCrit => 0x0304
  | .sensorInclude => 0x0305
  | .sensorOffset0 => 0x0310 | .sensorOffset1 => 0x0311 | .sensorOffset2 => 0x0312 | .sensorOffset3 => 0x0313
  | .fanHyst => 0x0401 | .fanMinDuty => 0x0402 | .fanStallRpm => 0x0403 | .quietCap => 0x0404
  | .quietOverrideTemp => 0x0405 | .boostStep => 0x0406
  | .debouncePasses => 0x0501 | .scanIntervalUs => 0x0502 | .keyQUpper => 0x0503 | .keyQLower => 0x0504
  | .bootMinPct => 0x0601 | .buttonHoldMs => 0x0602 | .lidAction => 0x0603 | .lidDelayS => 0x0604 | .wakeMask => 0x0605
  | .watchdogS => 0x0701 | .advisoryNotices => 0x0702

/-- The setting an identifier names, if any (section 11.7). -/
def settingOfCode (n : Nat) : Option SettingId :=
  allSettings.find? (fun i => settingCode i == n)

/-- A setting's range, least and greatest value (section 10.2). WAKE_MASK's is the codes of its six sources (R183). -/
def settingRange : SettingId → Int × Int
  | .efficiency => (128, 256) | .powerCapMw => (15000, 240000)
  | .adapterVMin => (5000, 28000) | .adapterVMax => (5000, 28000) | .legacyMw => (0, 90000)
  | .reserveMw => (0, 20000) | .packWeightA => (1, 15) | .packWeightB => (1, 15)
  | .packImaxA => (0, 8000) | .packImaxB => (0, 8000)
  | .chargeLimit => (50, 100) | .packLowPct => (1, 50) | .packCritPct => (0, 10)
  | .derateStart => (400, 1200) | .derateEnd => (410, 1300)
  | .thermUrgent => (600, 1400) | .thermCrit => (620, 1500) | .sensorInclude => (1, 15)
  | .sensorOffset0 => (-100, 100) | .sensorOffset1 => (-100, 100)
  | .sensorOffset2 => (-100, 100) | .sensorOffset3 => (-100, 100)
  | .fanHyst => (0, 100) | .fanMinDuty => (0, 50) | .fanStallRpm => (100, 2000)
  | .quietCap => (20, 100) | .quietOverrideTemp => (600, 1200) | .boostStep => (0, 50)
  | .debouncePasses => (1, 8) | .scanIntervalUs => (500, 4000) | .keyQUpper => (4, 32) | .keyQLower => (0, 31)
  | .bootMinPct => (0, 20) | .buttonHoldMs => (2000, 10000) | .lidAction => (0, 2) | .lidDelayS => (0, 60)
  | .wakeMask => (1, 63)
  | .watchdogS => (0, 60) | .advisoryNotices => (0, 1)

/-- The settings at their defaults (section 10.2). WAKE_MASK is BUTTON, LID, ADAPTER and PACK_LOW: bits 0, 1, 3 and 4. -/
def Settings.defaults : Settings where
  efficiency := 243
  powerCapMw := 180000
  adapterVMin := 9000
  adapterVMax := 20000
  legacyMw := 45000
  reserveMw := 6000
  packWeightA := 8
  packWeightB := 8
  packImaxA := 4000
  packImaxB := 4000
  chargeLimit := 100
  packLowPct := 10
  packCritPct := 2
  derateStart := 700
  derateEnd := 900
  thermUrgent := 950
  thermCrit := 1050
  sensorInclude := 15
  sensorOffset0 := 0
  sensorOffset1 := 0
  sensorOffset2 := 0
  sensorOffset3 := 0
  fanHyst := 30
  fanMinDuty := 20
  fanStallRpm := 300
  quietCap := 60
  quietOverrideTemp := 850
  boostStep := 15
  debouncePasses := 4
  scanIntervalUs := 1000
  keyQUpper := 28
  keyQLower := 8
  bootMinPct := 3
  buttonHoldMs := 4000
  lidAction := 1
  lidDelayS := 10
  wakeMask := 27
  watchdogS := 0
  advisoryNotices := 1

/-! ### Default tables -/

/-- The default LID_OPEN table (section 4.5). -/
def defaultCurveOpen : List CurvePoint :=
  [⟨400, 0⟩, ⟨550, 30⟩, ⟨700, 55⟩, ⟨850, 80⟩, ⟨950, 100⟩]

/-- The default LID_CLOSED table (section 4.5). -/
def defaultCurveClosed : List CurvePoint :=
  [⟨400, 0⟩, ⟨500, 35⟩, ⟨650, 60⟩, ⟨800, 85⟩, ⟨900, 100⟩]

/-- The default phase table (R175). -/
def defaultPhases : List ArbSource :=
  [.reply, .key, .notice, .reply, .key, .reply, .key, .reply,
   .notice, .key, .reply, .key, .reply, .key, .notice, .key]

/-! ### The blocks after a power-on reset -/

/-- A key record at its reset values (section 5.3). -/
def KeyRec.up : KeyRec := ⟨false, 0, false, false, false, false, false⟩

/-- A sense line record at its reset values (section 5.3). -/
def LineRec.initial : LineRec := ⟨false, 0, 0, 0⟩

/-- A window at its reset values (section 6.1). -/
def Window.initial : Window := ⟨false, 0, 0xFF, 0, false⟩

/-- The action table entry after each reset (section 6.4). -/
def ActionEntry.initial : ActionEntry := ⟨.nothing, 0⟩

/-- ADN, emptied (R7). -/
def Adn.initial : Adn := ⟨.detached, [], [], [], none, none, none, 0⟩

/-- A pack record, emptied (R48). -/
def Pack.initial : Pack := ⟨.absent, false, none, 0, none, 0, none, false, false, none⟩

/-- PBC (R48). -/
def Pbc.initial : Pbc := ⟨⟨.initial, .initial⟩, [], none, ⟨false, false⟩⟩

/-- The per-pack budget fields at their starting values (R71). -/
def PackBudget.initial : PackBudget := ⟨false, none, 0, 0⟩

/-- The budget record at its starting values (R71); R, D and the latch are those of the evaluation made in the reset
event, after which the trigger reads RESET. -/
def Budget.initial : Budget :=
  ⟨.reset, none, 0, 6000, 0, false, none, 0, 0, .noSource, ⟨false, false⟩, none, ⟨.initial, .initial⟩⟩

/-- CBU (R71). -/
def Cbu.initial : Cbu := ⟨.initial, ⟨true, true⟩⟩

/-- A sensor slot (R95). -/
def SensorSlot.initial : SensorSlot := ⟨.pending, none, 0, 0, none⟩

/-- THM (R95). -/
def Thm.initial : Thm := ⟨⟨.initial, .initial, .initial, .initial⟩, .pending, true, true, false, 0⟩

/-- A fan slot (section 4.6). -/
def FanSlot.initial : FanSlot := ⟨.auto, 0, none, 0, none, 0, 0, 0, false⟩

/-- FNC (R96). -/
def Fnc.initial : Fnc := ⟨⟨.initial, .initial⟩, 0, 0, false, defaultCurveOpen, defaultCurveClosed⟩

/-- MXS (R116). It is armed at entry into ACTIVITY (R104); before that the flag has no reader (DESIGN CHOICE,
notes/assumptions/16.md). -/
def Mxs.initial : Mxs :=
  ⟨.suspended, true, none, List.replicate 144 .up, List.replicate 18 .initial, 0, false, [], [], false⟩

/-- HKM (R128). -/
def Hkm.initial : Hkm := ⟨List.replicate 6 .initial, List.replicate 64 .initial, []⟩

/-- PSQ (R151), with the button released, the lid open and both power-good inputs low. The wake timer is disarmed (R139); that
its remaining time is 0 is the model's (DESIGN CHOICE, notes/assumptions/16.md). -/
def Psq.initial : Psq where
  state := .off
  mainOn := false
  coreOn := false
  hrst := true
  mainGood := false
  coreGood := false
  step := none
  stepTimer := none
  startKind := none
  downTarget := none
  downCause := none
  restartOrigin := none
  held := none
  wakeList := []
  wakeArmed := false
  wakeRemaining := 0
  buttonRaw := false
  buttonConfirmed := false
  buttonTimer := none
  lidRaw := false
  lidConfirmed := false
  lidTimer := none
  pressTime := none
  holdTimer := none
  lidDelay := none

/-- The latch, clear (section 8.6). -/
def Latch.initial : Latch := ⟨none, none, none⟩

/-- The retained summary, cleared (R164). -/
def Retained.initial : Retained := ⟨false, false, false, none, 0, false, false⟩

/-- FLM (R166). -/
def Flm.initial : Flm := ⟨[], 1, List.replicate 31 none, false, false, 0, none, .initial, none, .initial⟩

/-- The framer in HUNT (R179). -/
def Framer.initial : Framer := ⟨.hunt, [], [], 0, none⟩

/-- LNK (R179), transmitter IDLE and HRDY deasserted. -/
def Lnk.initial : Lnk := ⟨.initial, [], [], false, [], defaultPhases, 0, none, false, none⟩

/-- The straps with every strap input open: 2 packs, 2 fans, 16 sense lines, no diodes, 921600 baud, AUTO_ON off. -/
def Straps.initial : Straps := ⟨true, true, .n16, false, .b921600, false⟩

/-- SST after a power-on reset (R184, R185, section 10.4). -/
def Sst.initial : Sst := ⟨.defaults, .initial, .powerOn, 0, 0⟩

end Sys2Proof.Machine
end

