-- ==== Sys2Proof/Machine/State.lean ====
section
/-! DEFINITION. The P640's whole state, one field per block (section 0.3), the part's clock, its output lines and the queue
of commands that wait; the reasons a step could stop; the state after a power-on reset. -/
namespace Sys2Proof.Machine

/-- The state of the part. -/
structure State where
  /-- The part's millisecond time, from power-on reset (section 2.5). -/
  time    : Nat
  pim     : Pim
  adn     : Adn
  pbc     : Pbc
  cbu     : Cbu
  thm     : Thm
  fnc     : Fnc
  mxs     : Mxs
  hkm     : Hkm
  psq     : Psq
  flm     : Flm
  lnk     : Lnk
  sst     : Sst
  /-- THE MODEL's own: the writes of the output lines since the last power-on reset, oldest first. Nothing reads it
  (DESIGN CHOICE, notes/assumptions/14.md). -/
  outs    : List OutputWrite
  /-- THE MODEL's own: the commands that wait, first in, first out (DESIGN CHOICE, notes/assumptions/14.md,
  notes/assumptions/18.md). -/
  pending : List Instr
deriving DecidableEq, Repr

/-- No command of this part stops with a fault: the manual gives every event an effect or says that it is ignored
(DESIGN CHOICE for what cannot arise, notes/assumptions/3.md). -/
inductive Fault where
deriving DecidableEq, Repr

/-- The refusals. -/
inductive Refusal where
  /-- Raised by an arm of `exec` whose command has no meaning yet; no arm does so now. Safe: the machine stops. -/
  | notModelled (mnemonic : String)
deriving DecidableEq, Repr

/-- The part right after a power-on reset (R184) on a board with every strap input open, no adapter, no pack, the button
released, the lid open, no rail good and HRDY deasserted: every block as its reset rule leaves it, with the RESET, STATE
and ADAPTER notices of the reset event in the notice queue (R179). The levels are a DESIGN CHOICE, notes/assumptions/7.md. -/
def State.reset : State where
  time := 0
  pim := ⟨none, false⟩
  adn := .initial
  pbc := .initial
  cbu := .initial
  thm := .initial
  fnc := .initial
  mxs := .initial
  hkm := .initial
  psq := .initial
  flm := .initial
  lnk := { Lnk.initial with
    notices := [.reset .powerOn, .state .off .reset false, .adapter ⟨.detached, 0, none, 0, none⟩] }
  sst := .initial
  outs := [.charger .a 0, .charger .b 0, .pathSwitch .a false, .pathSwitch .b false, .railEnable .main false,
    .railEnable .core false, .hostReset true]
  pending := []

end Sys2Proof.Machine
end

