-- ==== Sys2Proof/Machine/Ops.lean ====
section
/-! DEFINITION. The named operations over the state that every block uses: the block updates, settings and straps, the
output lines, and placing notices, urgent notices and replies with the LNK. -/
namespace Sys2Proof.Machine

/-! ### Values held per pack, fan and sensor -/

def PerPack.get {α : Type} (x : PerPack α) : PackId → α
  | .a => x.a
  | .b => x.b

def PerPack.set {α : Type} (x : PerPack α) (p : PackId) (v : α) : PerPack α :=
  match p with
  | .a => { x with a := v }
  | .b => { x with b := v }

def PerFan.get {α : Type} (x : PerFan α) : FanId → α
  | .f0 => x.f0
  | .f1 => x.f1

def PerFan.set {α : Type} (x : PerFan α) (f : FanId) (v : α) : PerFan α :=
  match f with
  | .f0 => { x with f0 := v }
  | .f1 => { x with f1 := v }

def PerSensor.get {α : Type} (x : PerSensor α) : Fin 4 → α
  | 0 => x.s0
  | 1 => x.s1
  | 2 => x.s2
  | 3 => x.s3

def PerSensor.set {α : Type} (x : PerSensor α) (n : Fin 4) (v : α) : PerSensor α :=
  match n with
  | 0 => { x with s0 := v }
  | 1 => { x with s1 := v }
  | 2 => { x with s2 := v }
  | 3 => { x with s3 := v }

/-! ### Block updates -/

def State.setPim (s : State) (x : Pim) : State := { s with pim := x }
def State.setAdn (s : State) (x : Adn) : State := { s with adn := x }
def State.setPbc (s : State) (x : Pbc) : State := { s with pbc := x }
def State.setCbu (s : State) (x : Cbu) : State := { s with cbu := x }
def State.setThm (s : State) (x : Thm) : State := { s with thm := x }
def State.setFnc (s : State) (x : Fnc) : State := { s with fnc := x }
def State.setMxs (s : State) (x : Mxs) : State := { s with mxs := x }
def State.setHkm (s : State) (x : Hkm) : State := { s with hkm := x }
def State.setPsq (s : State) (x : Psq) : State := { s with psq := x }
def State.setFlm (s : State) (x : Flm) : State := { s with flm := x }
def State.setLnk (s : State) (x : Lnk) : State := { s with lnk := x }
def State.setSst (s : State) (x : Sst) : State := { s with sst := x }
def State.setPending (s : State) (x : List Instr) : State := { s with pending := x }

/-- Writes of output lines, in order. -/
def State.emit (s : State) (ws : List OutputWrite) : State := { s with outs := s.outs ++ ws }

/-- The record of one pack. -/
def State.pack (s : State) (p : PackId) : Pack := s.pbc.packs.get p

/-- Replace the record of one pack. -/
def State.setPack (s : State) (p : PackId) (x : Pack) : State :=
  s.setPbc { s.pbc with packs := s.pbc.packs.set p x }

/-! ### Settings and straps -/

/-- The stored value of a setting (R181). -/
def Settings.get (c : Settings) : SettingId → Int
  | .efficiency => c.efficiency | .powerCapMw => c.powerCapMw
  | .adapterVMin => c.adapterVMin | .adapterVMax => c.adapterVMax | .legacyMw => c.legacyMw
  | .reserveMw => c.reserveMw | .packWeightA => c.packWeightA | .packWeightB => c.packWeightB
  | .packImaxA => c.packImaxA | .packImaxB => c.packImaxB | .chargeLimit => c.chargeLimit
  | .packLowPct => c.packLowPct | .packCritPct => c.packCritPct
  | .derateStart => c.derateStart | .derateEnd => c.derateEnd
  | .thermUrgent => c.thermUrgent | .thermCrit => c.thermCrit | .sensorInclude => c.sensorInclude
  | .sensorOffset0 => c.sensorOffset0 | .sensorOffset1 => c.sensorOffset1
  | .sensorOffset2 => c.sensorOffset2 | .sensorOffset3 => c.sensorOffset3
  | .fanHyst => c.fanHyst | .fanMinDuty => c.fanMinDuty | .fanStallRpm => c.fanStallRpm
  | .quietCap => c.quietCap | .quietOverrideTemp => c.quietOverrideTemp | .boostStep => c.boostStep
  | .debouncePasses => c.debouncePasses | .scanIntervalUs => c.scanIntervalUs
  | .keyQUpper => c.keyQUpper | .keyQLower => c.keyQLower
  | .bootMinPct => c.bootMinPct | .buttonHoldMs => c.buttonHoldMs | .lidAction => c.lidAction
  | .lidDelayS => c.lidDelayS | .wakeMask => c.wakeMask
  | .watchdogS => c.watchdogS | .advisoryNotices => c.advisoryNotices

/-- Store a setting's value (R182). -/
def Settings.set (c : Settings) (i : SettingId) (v : Int) : Settings :=
  match i with
  | .efficiency => { c with efficiency := v } | .powerCapMw => { c with powerCapMw := v }
  | .adapterVMin => { c with adapterVMin := v } | .adapterVMax => { c with adapterVMax := v }
  | .legacyMw => { c with legacyMw := v }
  | .reserveMw => { c with reserveMw := v }
  | .packWeightA => { c with packWeightA := v } | .packWeightB => { c with packWeightB := v }
  | .packImaxA => { c with packImaxA := v } | .packImaxB => { c with packImaxB := v }
  | .chargeLimit => { c with chargeLimit := v }
  | .packLowPct => { c with packLowPct := v } | .packCritPct => { c with packCritPct := v }
  | .derateStart => { c with derateStart := v } | .derateEnd => { c with derateEnd := v }
  | .thermUrgent => { c with thermUrgent := v } | .thermCrit => { c with thermCrit := v }
  | .sensorInclude => { c with sensorInclude := v }
  | .sensorOffset0 => { c with sensorOffset0 := v } | .sensorOffset1 => { c with sensorOffset1 := v }
  | .sensorOffset2 => { c with sensorOffset2 := v } | .sensorOffset3 => { c with sensorOffset3 := v }
  | .fanHyst => { c with fanHyst := v } | .fanMinDuty => { c with fanMinDuty := v }
  | .fanStallRpm => { c with fanStallRpm := v } | .quietCap => { c with quietCap := v }
  | .quietOverrideTemp => { c with quietOverrideTemp := v } | .boostStep => { c with boostStep := v }
  | .debouncePasses => { c with debouncePasses := v } | .scanIntervalUs => { c with scanIntervalUs := v }
  | .keyQUpper => { c with keyQUpper := v } | .keyQLower => { c with keyQLower := v }
  | .bootMinPct => { c with bootMinPct := v } | .buttonHoldMs => { c with buttonHoldMs := v }
  | .lidAction => { c with lidAction := v } | .lidDelayS => { c with lidDelayS := v }
  | .wakeMask => { c with wakeMask := v }
  | .watchdogS => { c with watchdogS := v } | .advisoryNotices => { c with advisoryNotices := v }

/-- The value of a setting in force. -/
def State.setting (s : State) (i : SettingId) : Int := s.sst.settings.get i

/-- The value in force of a setting whose range holds no negative number. -/
def State.settingN (s : State) (i : SettingId) : Nat := (s.setting i).toNat

/-- The sense lines that the strap counts (section 10.1). -/
def SenseCount.count : SenseCount → Nat
  | .n12 => 12
  | .n16 => 16
  | .n18 => 18

/-- The scanned sense lines are those below this number (R97). -/
def State.senseCount (s : State) : Nat := s.sst.straps.senseLines.count

/-- Whether the board has the pack's slot (R23, R180). -/
def State.hasPack (s : State) : PackId → Bool
  | .a => true
  | .b => s.sst.straps.twoPacks

/-- Whether the board has the fan: it is a present fan of R81. -/
def State.hasFan (s : State) : FanId → Bool
  | .f0 => true
  | .f1 => s.sst.straps.twoFans

/-- A value brought into a range. -/
def clampInt (lo hi v : Int) : Int := max lo (min hi v)

/-! ### Placing notices, urgent notices and replies -/

/-- The two notices coalesce: they are of one coalescing key (section 9.5). -/
def Notice.sameKey : Notice → Notice → Bool
  | .state _ _ _, .state _ _ _ => true
  | .adapter _, .adapter _ => true
  | .lid _, .lid _ => true
  | .pack p _, .pack q _ => p == q
  | _, _ => false

/-- The notice joins the tail; from a full queue the oldest is dropped first and the overrun flag is set (R176). -/
def Lnk.appendNotice (l : Lnk) (n : Notice) : Lnk :=
  if Config.noticeCapacity ≤ l.notices.length then
    { l with notices := l.notices.tail ++ [n], overrun := true }
  else
    { l with notices := l.notices ++ [n] }

/-- Placing a notice: in place of an unsent one of its coalescing key, or at the tail (R176). -/
def Lnk.placeNotice (l : Lnk) (n : Notice) : Lnk :=
  if l.notices.any n.sameKey then
    { l with notices := l.notices.map (fun x => if n.sameKey x then n else x) }
  else
    l.appendNotice n

/-- Placing an URGENT notice: it is not placed when the list is full (R157, R177). -/
def Lnk.placeUrgent (l : Lnk) (n : UrgentNotice) : Lnk :=
  if l.urgent.length < Config.urgentCapacity then { l with urgent := l.urgent ++ [n] } else l

/-- A reply joins the tail of the reply queue (R172). -/
def Lnk.addReply (l : Lnk) (r : Reply) : Lnk := { l with replies := l.replies ++ [r] }

/-- A block hands the LNK a notice. -/
def State.notice (s : State) (n : Notice) : State := s.setLnk (s.lnk.placeNotice n)

/-- The FLM places an URGENT notice. -/
def State.urgentNotice (s : State) (n : UrgentNotice) : State := s.setLnk (s.lnk.placeUrgent n)

/-- Whether a bus operation is a host raw read. -/
def BusOp.isRaw (o : BusOp) : Bool :=
  match o.kind with
  | .rawRead _ _ => true
  | .poll => false

/-- The in-flight list: the accepted raw reads not yet answered (section 9.3; DEDUCED, notes/assumptions/6.md). -/
def State.inFlight (s : State) : List BusOp := s.pbc.ops.filter BusOp.isRaw

/-- The reply queue's count: the replies it holds and the places held by in-flight entries (section 9.3). -/
def State.replyCount (s : State) : Nat := s.lnk.replies.length + s.inFlight.length

end Sys2Proof.Machine
end

