-- ==== Sys2Proof/Machine/Clock.lean ====
section
/-! DEFINITION. One millisecond of the part's time, which passes where no command waits (DESIGN CHOICE, notes/assumptions/2.md):
the part's time advances and every running timer's remaining time falls. Expiries come as commands of their own. -/
namespace Sys2Proof.Machine

/-- A timer's remaining time after `n` units; it does not fall below 0. -/
def elapse (n : Nat) (t : Option Nat) : Option Nat := t.map (· - n)

/-- A pack's poll timer after a millisecond. -/
def Pack.tick (k : Pack) : Pack := { k with pollTimer := elapse 1 k.pollTimer }

/-- The PSQ's timers after a millisecond; the wake timer runs in STANDBY alone (R139). -/
def Psq.tick (q : Psq) : Psq :=
  { q with
    stepTimer := elapse 1 q.stepTimer, held := elapse 1 q.held, buttonTimer := elapse 1 q.buttonTimer,
    lidTimer := elapse 1 q.lidTimer, holdTimer := elapse 1 q.holdTimer, lidDelay := elapse 1 q.lidDelay,
    wakeRemaining := if q.wakeArmed ∧ q.state = .standby then q.wakeRemaining - 1 else q.wakeRemaining }

/-- The part after a millisecond in which no event happens. -/
def State.tick (s : State) : State :=
  { s with
    time := s.time + 1
    adn := { s.adn with timer := elapse 1 s.adn.timer }
    pbc := { s.pbc with packs := ⟨s.pbc.packs.a.tick, s.pbc.packs.b.tick⟩, busTimer := elapse 1 s.pbc.busTimer }
    cbu := { s.cbu with budget := { s.cbu.budget with overdraw := elapse 1 s.cbu.budget.overdraw } }
    mxs := { s.mxs with passTimer := elapse 1000 s.mxs.passTimer }
    psq := s.psq.tick
    flm := { s.flm with watchdog := elapse 1 s.flm.watchdog }
    lnk := { s.lnk with framer := { s.lnk.framer with timer := elapse 1 s.lnk.framer.timer },
                        pendingReset := elapse 1 s.lnk.pendingReset } }

end Sys2Proof.Machine
end

