-- ==== Sys2Proof/Machine/Flags.lean ====
section
/-! DEFINITION. The codes of section 11.6 and the packing of bits into a byte of a frame. -/
namespace Sys2Proof.Machine

/-- A set of flags as a number, the first in bit 0. -/
def bitsNat : List Bool → Nat
  | [] => 0
  | b :: bs => b.toNat + 2 * bitsNat bs

/-- Reply status codes (sections 9.3 and 11.6). -/
inductive Status where
  | ok | clamped | badLength | badArgument | unknownKind | unknownSetting | absent | busy | refusedState
  | gaugeSilent | conflict
deriving DecidableEq, Repr

def statusCode : Status → Nat
  | .ok => 0x00 | .clamped => 0x01 | .badLength => 0x02 | .badArgument => 0x03 | .unknownKind => 0x04
  | .unknownSetting => 0x05 | .absent => 0x06 | .busy => 0x07 | .refusedState => 0x08 | .gaugeSilent => 0x09
  | .conflict => 0x0A

/-- The class of a cause (section 8.1). -/
def faultClass : FaultCause → FaultClass
  | .thermCritical | .railFault | .overdrawHold => .protect
  | .watchdogSecond => .escalate
  | .thermHigh | .thermBlind | .fansFailed | .packOvervolt | .powerDeficit | .watchdogFirst => .urgent
  | .sensorLost | .sensorRestored | .fanStall | .fanRestored | .packSilent | .packHot
  | .keyLineStuck | .keyLineRestored | .adapterNoOffer | .adapterRejected | .linkCheck
  | .bootDenied | .forcedOff | .railSlow | .criticalOff => .advisory

def classCode : FaultClass → Nat
  | .protect => 0 | .escalate => 1 | .urgent => 2 | .advisory => 3

def causeCode : FaultCause → Nat
  | .thermCritical => 0x01 | .railFault => 0x02 | .overdrawHold => 0x03 | .watchdogSecond => 0x04
  | .thermHigh => 0x05 | .thermBlind => 0x06 | .fansFailed => 0x07 | .packOvervolt => 0x08
  | .powerDeficit => 0x09 | .watchdogFirst => 0x0A | .sensorLost => 0x0B | .sensorRestored => 0x0C
  | .fanStall => 0x0D | .fanRestored => 0x0E | .packSilent => 0x0F | .packHot => 0x10
  | .keyLineStuck => 0x11 | .keyLineRestored => 0x12 | .adapterNoOffer => 0x13 | .adapterRejected => 0x14
  | .linkCheck => 0x15 | .bootDenied => 0x16 | .forcedOff => 0x17 | .railSlow => 0x18 | .criticalOff => 0x19

def protectCauseCode : ProtectCause → Nat
  | .thermCritical => 0x01 | .railFault => 0x02 | .overdrawHold => 0x03

/-- Source codes; they also index the mark table (section 8.2). -/
def sourceCode : Source → Nat
  | .sensor n => n.val
  | .fan .f0 => 0x04
  | .fan .f1 => 0x05
  | .pack .a => 0x06
  | .pack .b => 0x07
  | .keyline s => 0x08 + s
  | .rail .main => 0x1A
  | .rail .core => 0x1B
  | .adapter => 0x1C
  | .link => 0x1D
  | .system => 0x1E

def sensorCauseCode : SensorCause → Nat
  | .openWire => 1 | .shorted => 2 | .range => 3

def sysStateCode : SysState → Nat
  | .off => 0 | .seqUp => 1 | .run => 2 | .standby => 3 | .seqDown => 4 | .tripped => 5

def startKindCode : StartKind → Nat
  | .wake => 1 | .request => 2 | .escalation => 3 | .autoOn => 4 | .release => 5

def stateCauseCode : StateCause → Nat
  | .reset => 0
  | .start k => startKindCode k
  | .down .request => 2
  | .down .lidTimer => 6
  | .down .forcedOff => 7
  | .down .criticalOff => 8
  | .down .restart => 9
  | .down .protect => 10

def wakeReasonCode : WakeReason → Nat
  | .button => 1 | .lid => 2 | .key => 3 | .adapter => 4 | .packLow => 5 | .timer => 6 | .restart => 7

def adnStateCode : AdnState → Nat
  | .detached => 0 | .querying => 1 | .selecting => 2 | .switching => 3 | .contract => 4 | .legacy => 5
  | .rejected => 6

def packStateCode : PackState → Nat
  | .absent => 0 | .ident => 1 | .ready => 2 | .charging => 3 | .full => 4 | .discharging => 5 | .halted => 6

def haltCauseCode : Option HaltCause → Nat
  | none => 0 | some .gaugeSilent => 1 | some .packHot => 2 | some .packOvervolt => 3

def modeCode : Mode → Nat
  | .noSource => 0 | .batteryOnly => 1 | .assist => 2 | .overdraw => 3 | .adapterOnly => 4 | .adapterCharging => 5

def triggerCode : Trigger → Nat
  | .sample => 0 | .contract => 1 | .pack => 2 | .derate => 3 | .latch => 4 | .setting => 5 | .control => 6
  | .reset => 7

def originCode : Origin → Nat
  | .scan => 0 | .sweep => 1 | .line => 2 | .resync => 3

def actionKindCode : ActionKind → Nat
  | .nothing => 0 | .fanBoostCycle => 1 | .quietToggle => 2 | .chargeLimitCycle => 3 | .hostNotice => 4

def resetKindCode : ResetKind → Nat
  | .powerOn => 0 | .pin => 1 | .soft => 2

def packCode : PackId → Nat
  | .a => 0 | .b => 1

def mxsCondCode : MxsCond → Nat
  | .scanning => 0 | .activity => 1 | .suspended => 2

def sensorCondCode : SensorCond → Nat
  | .pending => 0 | .valid => 1 | .marked => 2

/-- The wake source's bit of WAKE_MASK; BUTTON and RESTART act whatever the mask (R136). -/
def wakeMaskBit : WakeReason → Option Nat
  | .button => none | .lid => some 1 | .key => some 2 | .adapter => some 3 | .packLow => some 4 | .timer => some 5
  | .restart => none

/-! ### Argument codes (section 11.6) -/

def packOfCode : Nat → Option PackId
  | 0 => some .a | 1 => some .b | _ => none

def fanOfCode : Nat → Option FanId
  | 0 => some .f0 | 1 => some .f1 | _ => none

def fanModeOfCode : Nat → Option FanMode
  | 0 => some .auto | 1 => some .manual | _ => none

/-- A yes or no byte (R187). -/
def yesNoOfCode : Nat → Option Bool
  | 0 => some false | 1 => some true | _ => none

def actionKindOfCode : Nat → Option ActionKind
  | 0 => some .nothing | 1 => some .fanBoostCycle | 2 => some .quietToggle | 3 => some .chargeLimitCycle
  | 4 => some .hostNotice | _ => none

def arbSourceOfCode : Nat → Option ArbSource
  | 0 => some .reply | 1 => some .key | 2 => some .notice | _ => none

/-- The targets of POWER_STATE_REQUEST (R145). -/
inductive PowerTarget where
  | standby | off | restart
deriving DecidableEq, Repr

def powerTargetOfCode : Nat → Option PowerTarget
  | 0 => some .standby | 1 => some .off | 2 => some .restart | _ => none

end Sys2Proof.Machine
end

