-- ==== Sys2Proof/Machine/Operands.lean ====
section
/-! DEFINITION. Reading the fields of a request's payload and writing those of a frame: the byte order and widths of R187
and R188. -/
namespace Sys2Proof.Machine

/-- A value in `n` bytes, least significant byte first; a negative value in two's complement (R187). -/
def leBytes : Nat → Int → List Byte
  | 0, _ => []
  | n + 1, v => BitVec.ofInt 8 v :: leBytes n (v / 256)

/-- The number that bytes spell, least significant byte first (R187). -/
def leNat : List Byte → Nat
  | [] => 0
  | b :: bs => b.toNat + 256 * leNat bs

/-- The signed number that bytes spell in two's complement (R187). -/
def leInt (bs : List Byte) : Int :=
  if 2 * leNat bs < 256 ^ bs.length then (leNat bs : Int) else (leNat bs : Int) - 256 ^ bs.length

/-- The byte at an offset. -/
def byteAt (bs : List Byte) (off : Nat) : Nat := (bs.getD off 0).toNat

/-- The unsigned field of `n` bytes at an offset. -/
def fieldAt (bs : List Byte) (off n : Nat) : Nat := leNat ((bs.drop off).take n)

/-- The signed field of `n` bytes at an offset. -/
def signedAt (bs : List Byte) (off n : Nat) : Int := leInt ((bs.drop off).take n)

/-- A one-byte field. -/
def u8 (v : Nat) : List Byte := leBytes 1 v
def u16 (v : Nat) : List Byte := leBytes 2 v
def u24 (v : Nat) : List Byte := leBytes 3 v
def u32 (v : Nat) : List Byte := leBytes 4 v
def s16 (v : Int) : List Byte := leBytes 2 v
def s24 (v : Int) : List Byte := leBytes 3 v
def s32 (v : Int) : List Byte := leBytes 4 v
def s48 (v : Int) : List Byte := leBytes 6 v

/-- A frame: SYNC, KIND, TAG, LEN, the payload and the CHECK that brings the sum to 0 (section 9.1). -/
def frameSum (bs : List Byte) : Byte := bs.foldl (· + ·) 0

def frameBytes (kind tag : Byte) (payload : List Byte) : List Byte :=
  let body := kind :: tag :: BitVec.ofNat 8 payload.length :: payload
  0xD3 :: body ++ [- frameSum body]

end Sys2Proof.Machine
end

