-- ==== Sys2Proof/Machine/Faults.lean ====
section
/-! DEFINITION. The Fault Manager's handling of a fault report, but for the protective action of a PROTECT report, which
reaches the CBU and the PSQ (Machine/Protection.lean): the mark test, the log, the retained summary, U and M, advisories
(chapter 8). -/
namespace Sys2Proof.Machine

/-- The six marking causes (R154). -/
def isMarking : FaultCause → Bool
  | .sensorLost | .fanStall | .packSilent | .packHot | .packOvervolt | .keyLineStuck => true
  | _ => false

/-- The three clearing causes (R154). -/
def isClearing : FaultCause → Bool
  | .sensorRestored | .fanRestored | .keyLineRestored => true
  | _ => false

/-- The entry of a source in the mark table (section 8.2). -/
def Flm.mark (f : Flm) (src : Source) : Option FaultCause := f.marks.getD (sourceCode src) none

def Flm.setMark (f : Flm) (src : Source) (c : Option FaultCause) : Flm :=
  { f with marks := f.marks.set (sourceCode src) c }

/-- The mark test suppresses the report: a marking cause from a source marked with it (R154). -/
def Flm.suppresses (f : Flm) (c : FaultCause) (src : Source) : Bool :=
  isMarking c && f.mark src == some c

/-- The mark table after a report that is not suppressed (R154). -/
def Flm.markFor (f : Flm) (c : FaultCause) (src : Source) : Flm :=
  if isMarking c then f.setMark src (some c)
  else if isClearing c then f.setMark src none
  else f

/-- The log less its oldest record of a class the test picks. -/
def dropFirst (t : FaultRecord → Bool) : List FaultRecord → List FaultRecord
  | [] => []
  | r :: rs => if t r then rs else r :: dropFirst t rs

def isAdvisory (r : FaultRecord) : Bool := faultClass r.cause == .advisory

/-- The log after a full log has given up one record: its oldest ADVISORY record, or its oldest record when it holds no
ADVISORY record (R155). -/
def makeRoom (log : List FaultRecord) : List FaultRecord :=
  if log.length < Config.logCapacity then log
  else if log.any isAdvisory then dropFirst isAdvisory log
  else log.tail

/-- The counter's greatest value (R156). -/
def maxSeq : Nat := 4294967295

/-- The number the next record takes: the counter, or 1 when it stands past its range (R156). -/
def Flm.nextSeq (f : Flm) : Nat := if f.counter = 0 then 1 else f.counter

/-- The counter after a record has taken `n`: past its range it stands at 0 (R156). -/
def counterAfter (n : Nat) : Nat := if n = maxSeq then 0 else n + 1

/-- Logging a record: with the counter past its range the log is emptied first (R155, R156). -/
def Flm.append (f : Flm) (r : FaultRecord) : Flm :=
  let log := if f.counter = 0 then [] else f.log
  { f with log := makeRoom log ++ [r], counter := counterAfter r.seq }

/-- The PROTECT cause of a fault cause, if it is one (section 8.1). -/
def protectCauseOf : FaultCause → Option ProtectCause
  | .thermCritical => some .thermCritical
  | .railFault => some .railFault
  | .overdrawHold => some .overdrawHold
  | _ => none

/-- The retained summary after a record is logged (R153 step 3). -/
def Retained.note (r : Retained) (c : FaultCause) : Retained :=
  match faultClass c with
  | .protect => { r with protect := true, lastProtect := protectCauseOf c }
  | .escalate => { r with escalate := true }
  | .urgent => { r with urgent := true }
  | .advisory => r

/-- The record a report makes, with the system power state as it stands (R153). -/
def State.makeRecord (s : State) (c : FaultCause) (src : Source) (detail : Option Int) : FaultRecord :=
  ⟨s.flm.nextSeq, c, src, detail, s.psq.state⟩

/-- Urgent handling of a logged URGENT or PROTECT record (R157). -/
def State.handleUrgent (s : State) (r : FaultRecord) : State :=
  let multiple := s.flm.u
  (s.setFlm { s.flm with u := true, m := multiple }).urgentNotice ⟨r, multiple⟩

/-- Handling of a logged ADVISORY record (R158). -/
def State.handleAdvisory (s : State) (r : FaultRecord) : State :=
  if s.setting .advisoryNotices = 0 then s
  else if s.flm.u then
    s.setFlm { s.flm with
      held := min 255 (s.flm.held + 1)
      firstHeld := if s.flm.held = 0 then some r.seq else s.flm.firstHeld }
  else s.notice (.advisory r)

/-- A report that the mark test lets pass: marked, logged, noted in the summary (R153 steps 1 to 3). -/
def State.logReport (s : State) (c : FaultCause) (src : Source) (r : FaultRecord) : State :=
  let f := (s.flm.markFor c src).append r
  s.setFlm { f with retained := f.retained.note c }

/-- The FLM takes a report, but for the protective action of step 4 of a PROTECT report (R153): the whole of it for a cause
of another class. Blocks that report PROTECT causes use `State.report`. -/
def State.reportLogged (s : State) (c : FaultCause) (src : Source) (detail : Option Int) : State :=
  if s.flm.suppresses c src then s
  else
    let r := s.makeRecord c src detail
    let s1 := s.logReport c src r
    match faultClass c with
    | .protect | .urgent => s1.handleUrgent r
    | .advisory => s1.handleAdvisory r
    | .escalate => s1

/-- The PBC's clearing of a pack's mark, which makes no record (R34, R154). -/
def State.clearPackMark (s : State) (p : PackId) : State := s.setFlm (s.flm.setMark (.pack p) none)

/-! ### The latch (section 8.6) -/

/-- The latch is set while its cause set is not empty. -/
def Latch.isSet (l : Latch) : Bool := l.thermCritical.isSome || l.railFault.isSome || l.overdrawHold.isSome

/-- A cause joins the set as set (R160 step 1). -/
def Latch.join (l : Latch) : ProtectCause → Latch
  | .thermCritical => { l with thermCritical := some true }
  | .railFault => { l with railFault := some true }
  | .overdrawHold => { l with overdrawHold := some true }

/-- A cause in the set is recorded clear (R161). -/
def Latch.clearCause (l : Latch) : ProtectCause → Latch
  | .thermCritical => { l with thermCritical := l.thermCritical.map (fun _ => false) }
  | .railFault => { l with railFault := l.railFault.map (fun _ => false) }
  | .overdrawHold => { l with overdrawHold := l.overdrawHold.map (fun _ => false) }

/-- Every cause in the set is clear (R161). -/
def Latch.allClear (l : Latch) : Bool :=
  l.thermCritical != some true && l.railFault != some true && l.overdrawHold != some true

/-- The condition under which a cause clears (R161). -/
def State.causeClears (s : State) : ProtectCause → Bool
  | .thermCritical =>
    match s.thm.aggregate with
    | .valid t _ => decide (t < s.setting .thermUrgent)
    | _ => false
  | .railFault => !s.psq.mainOn && !s.psq.coreOn
  | .overdrawHold => decide (s.cbu.budget.mode ≠ .overdraw)

/-- The cause-clear test of one cause (R161). -/
def State.clearTest (s : State) (c : ProtectCause) : State :=
  if s.causeClears c then s.setFlm { s.flm with latch := s.flm.latch.clearCause c } else s

/-! ### The host watchdog (section 8.7) -/

/-- WATCHDOG_S in force, in milliseconds (R162). -/
def State.watchdogMs (s : State) : Nat := s.settingN .watchdogS * 1000

/-- The watchdog started afresh, or left stopped with WATCHDOG_S at 0 (R162). -/
def State.startWatchdog (s : State) : State :=
  s.setFlm { s.flm with watchdog := if s.settingN .watchdogS = 0 then none else some s.watchdogMs }

def State.stopWatchdog (s : State) : State := s.setFlm { s.flm with watchdog := none }

end Sys2Proof.Machine
end

