-- ==== Sys2Proof/Machine/Budget.lean ====
section
/-! DEFINITION. The charge budget (chapter 3) with what the PBC does at each evaluation: eligibility, the connected set, the
path switches, the working-state decision and PACK notices (R35 to R40, R47). -/
namespace Sys2Proof.Machine

/-! ### What the pack records say (sections 2.7 to 2.10) -/

/-- A working state (section 2.7). -/
def PackState.working : PackState → Bool
  | .ready | .charging | .full | .discharging => true
  | _ => false

/-- A pack is dischargeable (R38). -/
def Pack.dischargeable (k : Pack) : Bool :=
  k.state.working &&
    match k.gauge with
    | some g => !g.terminateDischarge
    | none => false

/-- Relative charge, or 0 where no gauge fields are held. -/
def Pack.relCharge (k : Pack) : Nat :=
  match k.gauge with
  | some g => g.relCharge
  | none => 0

def Pack.voltage (k : Pack) : Nat :=
  match k.gauge with
  | some g => g.voltage
  | none => 0

/-- A pack is eligible to charge (R36). -/
def State.eligible (s : State) (p : PackId) : Bool :=
  let k := s.pack p
  (k.state == .ready || k.state == .charging) && s.cbu.enable.get p &&
    match k.gauge with
    | some g => decide ((g.relCharge : Int) < s.setting .chargeLimit) && decide (0 ≤ g.temperature) &&
        decide (g.temperature ≤ 449)
    | none => false

/-- The connected set of a mode, formed from the dischargeable packs (R39). -/
def connectedSet (mode : Mode) (a b : Pack) : PerPack Bool :=
  if mode = .batteryOnly ∨ mode = .assist then
    match a.dischargeable, b.dischargeable with
    | false, false => ⟨false, false⟩
    | true, false => ⟨true, false⟩
    | false, true => ⟨false, true⟩
    | true, true =>
      if a.voltage ≤ b.voltage + 200 ∧ b.voltage ≤ a.voltage + 200 then ⟨true, true⟩
      else if b.voltage < a.voltage then ⟨true, false⟩
      else ⟨false, true⟩
  else ⟨false, false⟩

/-! ### Stages 1 to 3 -/

/-- P_sys of a sample (R1). -/
def PowerSample.pSys (m : PowerSample) : Nat := m.vBus * m.iSys / 1000

/-- Stage 1: the signed gap (R53). -/
def gap (pContract : Nat) (m : PowerSample) : Int := (pContract : Int) - (m.pSys : Int)

/-- The mode stage 2 chooses; absent where it is left open until stage 6 (R52, R53). -/
def chooseMode (pContract : Nat) (g : Option Int) (anyDischargeable : Bool) : Option Mode :=
  if pContract = 0 then some (if anyDischargeable then .batteryOnly else .noSource)
  else
    match g with
    | none => some (if anyDischargeable then .assist else .adapterOnly)
    | some g => if g < 0 then some (if anyDischargeable then .assist else .overdraw) else none

/-- Stage 2: the headroom, for a mode left open, with the latch clear (R54). -/
def headroom (open? : Bool) (latch : Bool) (g : Option Int) (r : Nat) : Nat :=
  if open? && !latch then
    match g with
    | some g => (g - r).toNat
    | none => 0
  else 0

/-- Stage 3: the derated headroom (R56). -/
def derated (h d : Nat) : Nat := h * d / 256

/-! ### Stages 4 to 7 -/

/-- The voltage used in the arithmetic (R57). -/
def clampedVoltage (v : Nat) : Nat := max 2500 (min 20000 v)

/-- What an eligible pack asks for: V_c, Ireq', weight and demand Q (R57). -/
structure Demand where
  vC     : Nat
  ireq   : Nat
  weight : Nat
  q      : Nat
deriving DecidableEq, Repr

def demandOf (g : Gauge) (imax weight : Nat) : Demand :=
  let vC := clampedVoltage g.voltage
  let ireq := min g.ireq imax
  ⟨vC, ireq, weight, ireq * vC / 1000⟩

/-- The shares of two packs in C when ΣQ > Hd (R58). -/
def splitTwo (hd : Nat) (x y : Demand) : Nat × Nat :=
  let sx := hd * x.weight / (x.weight + y.weight)
  let sy := hd * y.weight / (x.weight + y.weight)
  if x.q < sx then (x.q, min y.q (sy + (sx - x.q)))
  else if y.q < sy then (min x.q (sx + (sy - y.q)), y.q)
  else (sx, sy)

/-- Stage 5: the share of each pack in C (R58). -/
def shares (hd : Nat) (c : PerPack (Option Demand)) : PerPack Nat :=
  match c.a, c.b with
  | none, none => ⟨0, 0⟩
  | some x, none => ⟨min x.q hd, 0⟩
  | none, some y => ⟨0, min y.q hd⟩
  | some x, some y =>
    if x.q + y.q ≤ hd then ⟨x.q, y.q⟩
    else
      let (sx, sy) := splitTwo hd x y
      ⟨sx, sy⟩

/-- The current a share supports, before quantisation (R59 step 1). -/
def shareCurrent (share : Nat) (d : Demand) : Nat := min (share * 1000 / d.vC) d.ireq

/-- The quantised set point (R59 steps 2 and 3). -/
def quantise (i : Nat) : Nat := if i / 16 * 16 < 128 then 0 else i / 16 * 16

/-- Stage 7: a cut at once, a rise by one step in a SAMPLE evaluation alone (R60, R61). -/
def appliedCurrent (t : Trigger) (iSet iApp : Nat) : Nat :=
  if iSet < iApp then iSet
  else if t = .sample then
    min iSet (iApp + (if iApp < iSet / 32 * 16 then 128 else 64))
  else iApp

def packWeight : PackId → SettingId
  | .a => .packWeightA
  | .b => .packWeightB

def packImax : PackId → SettingId
  | .a => .packImaxA
  | .b => .packImaxB

/-- The demand of a pack, absent outside C (R57). -/
def State.demand (s : State) (p : PackId) : Option Demand :=
  if s.eligible p then
    (s.pack p).gauge.map (fun g => demandOf g (s.settingN (packImax p)) (s.settingN (packWeight p)))
  else none

/-- Stages 6 and 7 of one pack (R59 to R61). -/
def packBudget (t : Trigger) (eligible : Bool) (d : Option Demand) (share iApp : Nat) : PackBudget :=
  match d with
  | none => ⟨eligible, none, 0, 0⟩
  | some d =>
    let i := shareCurrent share d
    let iSet := quantise i
    ⟨eligible, some ⟨d.vC, d.ireq, d.weight, d.q, share, i⟩, iSet, appliedCurrent t iSet iApp⟩

/-- The mode, completed after stage 6 (R55). -/
def completeMode (m : Option Mode) (packs : PerPack PackBudget) : Mode :=
  match m with
  | some m => m
  | none => if 0 < packs.a.iSet ∨ 0 < packs.b.iSet then .adapterCharging else .adapterOnly

/-- The overdraw timer after an evaluation: started on entry into OVERDRAW, left running there, cancelled on leaving
(R63). -/
def overdrawTimer (old new : Mode) (timer : Option Nat) : Option Nat :=
  if new = .overdraw then (if old = .overdraw then timer else some overdrawMs) else none

/-- The budget record of an evaluation, from the snapshot of its inputs (R51 to R61, R68). -/
def State.computeBudget (s : State) (t : Trigger) : Budget :=
  let old := s.cbu.budget
  let pContract := s.adn.pContract
  let r := s.settingN .reserveMw
  let d := s.thm.d
  let latch := s.flm.latch.isSet
  let a := s.pack .a
  let b := s.pack .b
  let g := s.pim.sample.map (gap pContract)
  let chosen := chooseMode pContract g (a.dischargeable || b.dischargeable)
  let h := headroom chosen.isNone latch g r
  let hd := derated h d
  let c : PerPack (Option Demand) := ⟨s.demand .a, s.demand .b⟩
  let sh := shares hd c
  let packs : PerPack PackBudget :=
    ⟨packBudget t (s.eligible .a) c.a sh.a old.packs.a.iApp, packBudget t (s.eligible .b) c.b sh.b old.packs.b.iApp⟩
  let mode := completeMode chosen packs
  { trigger := t, sample := s.pim.sample, pContract := pContract, r := r, d := d, latch := latch, g := g, h := h, hd := hd,
    mode := mode, connected := connectedSet mode a b, overdraw := overdrawTimer old.mode mode old.overdraw,
    packs := packs }

/-! ### Applying the results -/

/-- The charger writes of the packs whose applied current falls (R55, R60); pack A before pack B, which the rules leave open
(DESIGN CHOICE, notes/assumptions/19.md). -/
def chargerCuts (old new : PerPack PackBudget) : List OutputWrite :=
  (if new.a.iApp < old.a.iApp then [.charger .a new.a.iApp] else []) ++
  (if new.b.iApp < old.b.iApp then [.charger .b new.b.iApp] else [])

/-- The charger writes of the packs whose applied current rises (R55, R61); pack A before pack B, which the rules leave open
(DESIGN CHOICE, notes/assumptions/19.md). -/
def chargerRaises (old new : PerPack PackBudget) : List OutputWrite :=
  (if old.a.iApp < new.a.iApp then [.charger .a new.a.iApp] else []) ++
  (if old.b.iApp < new.b.iApp then [.charger .b new.b.iApp] else [])

/-- The path switch writes of a new connected set: the leaving packs' switches open, then the joining packs' close (R40);
of two that do the same, pack A's first (DESIGN CHOICE, notes/assumptions/19.md). -/
def switchWrites (old new : PerPack Bool) : List OutputWrite :=
  (if old.a && !new.a then [.pathSwitch .a false] else []) ++
  (if old.b && !new.b then [.pathSwitch .b false] else []) ++
  (if !old.a && new.a then [.pathSwitch .a true] else []) ++
  (if !old.b && new.b then [.pathSwitch .b true] else [])

/-- The working-state decision for one pack, from the latest evaluation (R35). -/
def State.workingState (s : State) (p : PackId) : PackState :=
  let k := s.pack p
  let b := s.cbu.budget.packs.get p
  let rc : Int := k.relCharge
  let fullFlag := match k.gauge with
    | some g => g.full
    | none => false
  if s.pbc.connected.get p then .discharging
  else if fullFlag || decide (s.setting .chargeLimit ≤ rc) then .full
  else if 0 < b.iSet ∨ 0 < b.iApp then .charging
  else if k.state = .full ∧ s.setting .chargeLimit - 5 ≤ rc then .full
  else .ready

/-- The decision applied to one pack, if it is in a working state (R35). -/
def State.decidePack (s : State) (p : PackId) : State :=
  let k := s.pack p
  if k.state.working then s.setPack p { k with state := s.workingState p } else s

/-- The deficit in units of 10 milliwatts (R63), of the latest evaluation. -/
def Budget.deficit (b : Budget) : Int :=
  match b.g with
  | some g => (-g) / 10
  | none => 0

/-- The results of an evaluation applied: outputs in the order of R55, the overdraw report of R63, the change of mode handed
to the FLM (R53), then the working-state decision (R50). -/
def State.applyBudget (s : State) (b : Budget) : State :=
  let old := s.cbu.budget
  let s1 := s.emit (chargerCuts old.packs b.packs ++ switchWrites s.pbc.connected b.connected
    ++ chargerRaises old.packs b.packs)
  let s2 := (s1.setCbu { s.cbu with budget := b }).setPbc { s.pbc with connected := b.connected }
  let s3 := if old.mode ≠ b.mode then s2.clearTest .overdrawHold else s2
  let s4 := if b.mode = .overdraw ∧ old.mode ≠ .overdraw then
      s3.reportLogged .powerDeficit .system (some b.deficit) else s3
  (s4.decidePack .a).decidePack .b

/-- One evaluation (R50). -/
def State.evaluate (s : State) (t : Trigger) : State := s.applyBudget (s.computeBudget t)

/-- The chain of R50 goes on: the set in force or a pack's state has changed. -/
def chainGoesOn (before after : State) : Bool :=
  decide (before.pbc.connected ≠ after.pbc.connected) ||
  decide ((before.pack .a).state ≠ (after.pack .a).state) ||
  decide ((before.pack .b).state ≠ (after.pack .b).state)

/-- The chain of evaluations of R50, of at most `n` evaluations. -/
def State.evaluateChain (s : State) : Nat → Trigger → State
  | 0, _ => s
  | n + 1, t =>
    let s1 := s.evaluate t
    if chainGoesOn s s1 then s1.evaluateChain n .pack else s1

/-- More evaluations than any chain takes (Obligations.EvaluationSettles says so). -/
def chainFuel : Nat := 5

/-- The evaluation a trigger causes, with its chain (R50). -/
def State.evaluateFor (s : State) (t : Trigger) : State := s.evaluateChain chainFuel t

/-! ### PACK notices (R47) -/

/-- The values a PACK notice gives. -/
def State.packView (s : State) (p : PackId) : PackView :=
  let k := s.pack p
  ⟨k.state, if k.state = .halted then k.cause else none, k.seated, k.gauge.map Gauge.relCharge, k.gauge.map Gauge.voltage,
    k.low, k.critical, s.pbc.connected.get p⟩

/-- A PACK notice is due: state, HALTED cause, presence or a flag has changed (R47). -/
def packChanged (k k' : Pack) : Bool :=
  decide (k.state ≠ k'.state) || decide (k.cause ≠ k'.cause) || decide (k.seated ≠ k'.seated) ||
  decide (k.low ≠ k'.low) || decide (k.critical ≠ k'.critical)

/-- The event so far has changed the pack's record (R47). -/
def State.packDiffers (s before : State) (p : PackId) : Bool := packChanged (before.pack p) (s.pack p)

/-- Some evaluation of a chain of at most `n` changes the pack's state, though a later one may change it back (R35). -/
def State.chainMoves (s : State) (p : PackId) : Nat → Trigger → Bool
  | 0, _ => false
  | n + 1, t =>
    let s1 := s.evaluate t
    decide ((s.pack p).state ≠ (s1.pack p).state) || (chainGoesOn s s1 && s1.chainMoves p n .pack)

/-- The PACK notice of one pack, where it is due. -/
def State.notifyPack (s : State) (due : PackId → Bool) (p : PackId) : State :=
  if due p then s.notice (.pack p (s.packView p)) else s

/-- The PACK notices of both packs, A before B (the order of reports and notices of one event: DEDUCED,
notes/assumptions/11.md). -/
def State.notifyPacks (s : State) (due : PackId → Bool) : State := (s.notifyPack due .a).notifyPack due .b

/-- The evaluation, with its chain, that a trigger causes in an event begun at `before`, and the event's PACK notices: one for
each pack that the event has changed so far or that an evaluation of the chain moves, of the values after the chain (R35,
R47). -/
def State.evaluateSince (s before : State) (t : Trigger) : State :=
  (s.evaluateFor t).notifyPacks (fun p => s.packDiffers before p || s.chainMoves p chainFuel t)

/-- A trigger handed to the CBU by another block: the evaluation with its chain, and the PACK notices of the changes it
makes. A trigger that another block hands over later in the event is an evaluation of its own (R71; DEDUCED,
notes/assumptions/9.md). -/
def State.trigger (s : State) (t : Trigger) : State := s.evaluateSince s t

end Sys2Proof.Machine
end

