-- ==== Sys2Proof/Machine/Fans.lean ====
section
/-! DEFINITION. The Fan Controller's duty computation and its reaction to the system power state (sections 4.5, 4.6, 4.7). -/
namespace Sys2Proof.Machine

/-- The curve value of a table at a temperature (R83). -/
def curveValue : List CurvePoint → Int → Nat
  | [], _ => 0
  | [p], _ => p.duty
  | p :: q :: rest, t =>
    if t ≤ p.temp then p.duty
    else if t < q.temp then p.duty + ((t - p.temp) * ((q.duty : Int) - p.duty) / (q.temp - p.temp)).toNat
    else curveValue (q :: rest) t

/-- The table in use: LID_CLOSED while the confirmed lid is closed (R83). -/
def State.curveInUse (s : State) : List CurvePoint :=
  if s.psq.lidConfirmed then s.fnc.curveClosed else s.fnc.curveOpen

/-- Stage 1 of the AUTO duty: the base, with its hysteresis (R86). -/
def dutyBase (curve : List CurvePoint) (t hyst : Int) (prevBase : Nat) : Nat :=
  max (curveValue curve t) (min prevBase (curveValue curve (t + hyst)))

/-- Stages 2 to 5 of the AUTO duty (R86). -/
def dutyOf (base boost boostStep : Nat) (quiet : Bool) (t overrideTemp : Int) (cap minDuty : Nat) : Nat :=
  let boosted := base + boost * boostStep
  let quieted := if quiet ∧ t < overrideTemp then min boosted cap else boosted
  let floored := if 0 < quieted ∧ quieted < minDuty then minDuty else quieted
  min 100 floored

/-- Write a fan's applied duty; a move from 0 starts the spin-up grace (R89). -/
def FanSlot.apply (f : FanSlot) (duty : Nat) : FanSlot :=
  if f.applied = 0 ∧ 0 < duty then { f with applied := duty, grace := 2, stall := 0 } else { f with applied := duty }

/-- Change the slot of every present fan. -/
def State.mapFans (s : State) (g : FanSlot → FanSlot) : State :=
  s.setFnc { s.fnc with fans :=
    ⟨g s.fnc.fans.f0, if s.hasFan .f1 then g s.fnc.fans.f1 else s.fnc.fans.f1⟩ }

/-- Some present fan is degraded (R87). -/
def State.anyDegraded (s : State) : Bool :=
  s.fnc.fans.f0.degraded || (s.hasFan .f1 && s.fnc.fans.f1.degraded)

/-- Every present fan is degraded (R81, R90). -/
def State.allDegraded (s : State) : Bool :=
  s.fnc.fans.f0.degraded && (!s.hasFan .f1 || s.fnc.fans.f1.degraded)

/-- The AUTO stages: the computed duty of every present fan (R86). -/
def State.autoStages (s : State) : State :=
  match s.thm.aggregate with
  | .valid t _ =>
    let base := dutyBase s.curveInUse t (s.setting .fanHyst) s.fnc.prevBase
    let duty := dutyOf base s.fnc.boost (s.settingN .boostStep) s.fnc.quiet t (s.setting .quietOverrideTemp)
      (s.settingN .quietCap) (s.settingN .fanMinDuty)
    (s.setFnc { s.fnc with prevBase := base }).mapFans (fun f => { f with computed := some duty })
  | _ => s.mapFans (fun f => { f with computed := none })

/-- The failsafe holds: the aggregate is not VALID or a present fan is degraded (R87). -/
def State.failsafe (s : State) : Bool :=
  (match s.thm.aggregate with
   | .valid _ _ => false
   | _ => true) || s.anyDegraded

/-- The duty R87 gives a fan after the AUTO stages. -/
def fanDuty (failsafe : Bool) (f : FanSlot) : Nat :=
  if failsafe then 100
  else
    match f.mode with
    | .auto => f.computed.getD 0
    | .manual => f.manual

/-- A duty computation; outside RUN none is made (R85). -/
def State.computeDuty (s : State) : State :=
  if s.psq.state = .run then
    let s1 := s.autoStages
    s1.mapFans (fun f => f.apply (fanDuty s1.failsafe f))
  else s

/-- A fan slot as RUN is left (R92). -/
def FanSlot.leaveRun (f : FanSlot) : FanSlot :=
  { f with applied := 0, stall := 0, recovery := 0, grace := 0, rpm := none, computed := none }

/-- The FNC as RUN is left (R92). -/
def State.fansLeaveRun (s : State) : State :=
  (s.setFnc { s.fnc with prevBase := 0 }).mapFans FanSlot.leaveRun

end Sys2Proof.Machine
end

