-- ==== Sys2Proof/Machine/Keyboard.lean ====
section
/-! DEFINITION. The key path (chapters 5 and 6): the pending list, hand-off to the key queue and the action queue, actions,
resync, the scanner conditions and the suspension sweep, scan passes and activity passes. -/
namespace Sys2Proof.Machine

/-! ### Records -/

/-- The record of a key code; a code above 143 has none and reads as up. -/
def Mxs.key (m : Mxs) (c : Nat) : KeyRec := m.keys.getD c .up

def Mxs.setKey (m : Mxs) (c : Nat) (k : KeyRec) : Mxs := { m with keys := m.keys.set c k }

/-- The record of a sense line. -/
def Mxs.line (m : Mxs) (l : Nat) : LineRec := m.lines.getD l .initial

def Mxs.setLine (m : Mxs) (l : Nat) (r : LineRec) : Mxs := { m with lines := m.lines.set l r }

/-- The key codes, in order (section 0.5). -/
def allCodes : List Nat := List.range 144

/-- The key code of a matrix position (section 0.5). -/
def keyCode (drive sense : Nat) : Nat := drive * 18 + sense

/-- The sense line of a key code. -/
def senseOf (code : Nat) : Nat := code % 18

/-- The drive line of a key code. -/
def driveOf (code : Nat) : Nat := code / 18

/-- A key's expected state: the direction of its newest listed transition, or its reported state (section 5.3). -/
def Mxs.expected (m : Mxs) (c : Nat) : Bool :=
  match (m.pending.filter (fun e => e.code == c)).getLast? with
  | some e => e.press
  | none => (m.key c).reported

/-! ### Hotkey windows (sections 6.1 and 6.2) -/

/-- The block size of a window (section 6.1). -/
def Window.size (w : Window) : Nat := 256 - w.mask

/-- A key code matches a window (R117). -/
def Window.matchesCode (w : Window) (c : Nat) : Bool := w.enabled && c / w.size == w.base / w.size

/-- The window a code matches: at most one (R117). -/
def Hkm.windowOf (h : Hkm) (c : Nat) : Option Window := h.windows.find? (fun w => w.matchesCode c)

/-- The action index of a code in a window (R120). -/
def Window.actionIndex (w : Window) (c : Nat) : Nat := w.translation / w.size * w.size + (c - c / w.size * w.size)

/-- The destinations of a head: KEY, and ACTION with its index (R118). -/
structure Destinations where
  key    : Bool
  action : Option Nat
deriving DecidableEq, Repr

/-- The HKM's answer for a head (R118). -/
def destinations (h : Hkm) (consumed : Bool) (e : Transition) : Destinations :=
  if e.press then
    match h.windowOf e.code with
    | some w => ⟨!w.consume, some (w.actionIndex e.code)⟩
    | none => ⟨true, none⟩
  else ⟨!consumed, none⟩

/-- The key queue guard drops KEY where the head's direction is the key's reported state (R107). -/
def guarded (d : Destinations) (reported : Bool) (e : Transition) : Destinations :=
  { d with key := d.key && e.press != reported }

/-- Every remaining destination accepts the head (R106). -/
def accepts (d : Destinations) (stalled : Bool) (actions : Nat) : Bool :=
  (!d.key || !stalled) && (d.action.isNone || decide (actions < Config.actionCapacity))

/-- The destinations of the head `e` after the guard. -/
def State.destinationsOf (s : State) (e : Transition) : Destinations :=
  let k := s.mxs.key e.code
  guarded (destinations s.hkm k.consumed e) k.reported e

/-- The key's record after the accepted head (R107, R119). -/
def keyAfterHandOff (h : Hkm) (d : Destinations) (e : Transition) (k : KeyRec) : KeyRec :=
  { k with
    reported := if d.key then e.press else k.reported
    consumed := if e.press then (h.windowOf e.code).any Window.consume else k.consumed }

/-- The MXS after a hand-off: the head leaves the list and may enter the key queue, which stalls as its count reaches
KEY_Q_UPPER (R106, R108, R109). -/
def Mxs.handOff (m : Mxs) (h : Hkm) (upper : Nat) (d : Destinations) (e : Transition) : Mxs :=
  let queue := if d.key then m.queue ++ [e] else m.queue
  { m with
    pending := m.pending.tail
    keys := m.keys.set e.code (keyAfterHandOff h d e (m.key e.code))
    queue := queue
    stalled := m.stalled || (d.key && decide (upper ≤ queue.length)) }

/-- The action queue after a hand-off (R120). -/
def Hkm.join (h : Hkm) (d : Destinations) : Hkm :=
  match d.action with
  | some i => { h with queue := h.queue ++ [i] }
  | none => h

/-- One offer of the pending head: absent where the list is empty or the head is refused (R106). -/
def State.tryHandOff (s : State) : Option State :=
  match s.mxs.pending with
  | [] => none
  | e :: _ =>
    let d := s.destinationsOf e
    if accepts d s.mxs.stalled s.hkm.queue.length then
      some ((s.setMxs (s.mxs.handOff s.hkm (s.settingN .keyQUpper) d e)).setHkm (s.hkm.join d))
    else none

/-! ### Actions (sections 6.4 to 6.6) -/

/-- The entry of the action table at an index. -/
def Hkm.action (h : Hkm) (i : Nat) : ActionEntry := h.actions.getD i .initial

/-- The boost level after a step (R88). -/
def boostNext (b : Nat) : Nat := if b = 0 then 1 else if b = 1 then 2 else 0

/-- The CHARGE_LIMIT a cycle writes (R126). -/
def chargeLimitNext (v : Int) : Int := if 81 ≤ v then 80 else if 61 ≤ v then 60 else 100

/-- The value the HOTKEY notice of an action carries (R125 to R127). -/
def State.actionValue (s : State) (e : ActionEntry) : Nat :=
  match e.kind with
  | .nothing => 0
  | .fanBoostCycle => boostNext s.fnc.boost
  | .quietToggle => (!s.fnc.quiet).toNat
  | .chargeLimitCycle => (chargeLimitNext (s.setting .chargeLimit)).toNat
  | .hostNotice => e.argument

/-- An action's effect (R125 to R127). -/
def State.actionEffect (s : State) (e : ActionEntry) : State :=
  match e.kind with
  | .nothing => s
  | .fanBoostCycle => (s.setFnc { s.fnc with boost := boostNext s.fnc.boost }).computeDuty
  | .quietToggle => (s.setFnc { s.fnc with quiet := !s.fnc.quiet }).computeDuty
  | .chargeLimitCycle =>
    (s.setSst { s.sst with
      settings := s.sst.settings.set .chargeLimit (chargeLimitNext (s.setting .chargeLimit)) }).trigger .setting
  | .hostNotice => s

/-- The head of the action queue leaves it. -/
def State.dropAction (s : State) : State := s.setHkm { s.hkm with queue := s.hkm.queue.tail }

/-- One offer of the action at the head: absent where the queue is empty or the action waits (R124). -/
def State.tryAction (s : State) : Option State :=
  match s.hkm.queue with
  | [] => none
  | i :: _ =>
    let e := s.hkm.action i
    if e.kind = .nothing then some s.dropAction
    else if s.lnk.notices.length < Config.noticeCapacity then
      some ((s.notice (.hotkey i e.kind (s.actionValue e))).actionEffect e).dropAction
    else none

/-- The action head where it has just arrived at the head: by joining an empty queue, or by the departure of the one ahead
(R124). A head that waits from an earlier arrival is not offered. -/
def State.tryArrival (s : State) (arrived : Bool) : Option State := if arrived then s.tryAction else none

/-- Offers in turn, of an action that has arrived at the head and then of the pending head, until neither is taken: the chain
of hand-offs and executions that R106 and R124 place in one event. `arrived` says that the action at the head has just
arrived there. -/
def State.pumpFor (s : State) : Bool → Nat → State
  | _, 0 => s
  | arrived, n + 1 =>
    match s.tryArrival arrived with
    | some s' => s'.pumpFor true n
    | none =>
      match s.tryHandOff with
      | some s' => s'.pumpFor s.hkm.queue.isEmpty n
      | none => s

/-- Each offer taken removes a pending entry, or an action: so many offers suffice. -/
def State.pump (s : State) (arrived : Bool) : State :=
  s.pumpFor arrived (2 * s.mxs.pending.length + s.hkm.queue.length)

/-- An offer event of the pending head, with what follows from its acceptance (R106): an action that joins an empty queue has
arrived at the head (R124). -/
def State.offerPending (s : State) : State :=
  match s.tryHandOff with
  | some s' => s'.pump s.hkm.queue.isEmpty
  | none => s

/-- The action that waits at the head is offered again, where the notice queue holds fewer than 16, with what follows from its
execution (R124). -/
def State.offerAction (s : State) : State :=
  if s.lnk.notices.length < Config.noticeCapacity then
    match s.tryAction with
    | some s' => s'.pump true
    | none => s
  else s

/-! ### The pending list (R105) -/

/-- A transition produced: appended, or lost to the key's resync flag (R105). -/
def State.appendTransition (s : State) (e : Transition) : State :=
  let k := s.mxs.key e.code
  if k.resync then s
  else if Config.pendingCapacity ≤ s.mxs.pending.length then
    s.setMxs (s.mxs.setKey e.code { k with resync := true })
  else
    let s1 := s.setMxs { s.mxs with pending := s.mxs.pending ++ [e] }
    if s.mxs.pending.isEmpty then s1.offerPending else s1

def State.appendAll (s : State) : List Transition → State
  | [] => s
  | e :: es => (s.appendTransition e).appendAll es

/-! ### Resync (section 5.9) -/

/-- The resync condition (R110). -/
def Mxs.resyncDue (m : Mxs) : Bool := m.pending.isEmpty && !m.stalled && m.keys.any KeyRec.resync

/-- The resync of one key: the flag cleared, and a transition appended where the host's view differs (R110). -/
def State.resyncKey (s : State) (c : Nat) : State :=
  let k := s.mxs.key c
  if Config.pendingCapacity ≤ s.mxs.pending.length then s
  else if k.resync then
    let s1 := s.setMxs (s.mxs.setKey c { k with resync := false })
    if k.debounced = k.reported then s1
    else s1.appendTransition ⟨c, k.debounced, s.mxs.passCount, .resync⟩
  else s

def State.resyncKeys (s : State) : List Nat → State
  | [] => s
  | c :: cs => (s.resyncKey c).resyncKeys cs

/-- The resync, over the flagged keys in code order (R110). -/
def State.runResync (s : State) : State := s.resyncKeys allCodes

/-! ### Suspension sweep and scanner conditions (sections 5.2 and 5.10) -/

/-- The release that step 1 of the sweep appends for a key (R112). -/
def State.sweepKey (s : State) (c : Nat) : State :=
  if s.mxs.expected c && !(s.mxs.key c).resync then s.appendTransition ⟨c, false, s.mxs.passCount, .sweep⟩ else s

def State.sweepKeys (s : State) : List Nat → State
  | [] => s
  | c :: cs => (s.sweepKey c).sweepKeys cs

/-- A key taken to up: raw and debounced up, count 0, ghost-suspect cleared (R102, R112). -/
def KeyRec.lift (k : KeyRec) : KeyRec := { k with raw := false, debounced := false, count := 0, ghost := false }

/-- Steps 2 to 4 of the sweep (R112). -/
def Mxs.sweepClear (m : Mxs) : Mxs :=
  { m with
    keys := m.keys.map (fun k => { k.lift with consumed := false })
    lines := m.lines.map (fun l => { l with restore := 0 }) }

/-- The suspension sweep (R112). -/
def State.sweep (s : State) : State :=
  let s1 := s.sweepKeys allCodes
  s1.setMxs s1.mxs.sweepClear

/-- The stored WAKE_MASK holds the source; BUTTON and RESTART act whatever it holds (R136). -/
def State.inMask (s : State) (w : WakeReason) : Bool :=
  match wakeMaskBit w with
  | none => true
  | some b => (s.settingN .wakeMask).testBit b

/-- The condition the four inputs call for (section 5.2). -/
def State.wantedCond (s : State) : MxsCond :=
  if s.mxs.enable && !s.psq.lidConfirmed then
    if s.psq.state = .run then .scanning
    else if s.psq.state = .standby ∧ s.inMask .key then .activity
    else .suspended
  else .suspended

/-- Entering a condition (R98, R104, R113). -/
def Mxs.enter (m : Mxs) (c : MxsCond) (interval : Nat) : Mxs :=
  match c with
  | .scanning => { m with cond := .scanning, passTimer := some interval }
  | .activity =>
    { m with cond := .activity, passTimer := some interval, armed := true,
             lines := m.lines.map (fun l => { l with activity := 0 }) }
  | .suspended => { m with cond := .suspended, passTimer := none }

/-- The MXS decides its condition afresh (R98). -/
def State.mxsDecide (s : State) : State :=
  if s.wantedCond = s.mxs.cond then s
  else
    let s1 := if s.mxs.cond = .scanning then s.sweep else s
    s1.setMxs (s1.mxs.enter s.wantedCond (s.settingN .scanIntervalUs))

/-! ### Scan passes (sections 5.3 to 5.5) -/

/-- Key `c` reads down in the snapshot, on a sense line below the strapped count. -/
def rawDown (senses : Nat) (snap : BitVec 144) (c : Nat) : Bool := decide (senseOf c < senses) && snap.getLsbD c

/-- The codes of the eight keys of a sense line, in order. -/
def lineCodes (l : Nat) : List Nat := (List.range 8).map (fun d => keyCode d l)

/-- The release of step 2 of an isolation is produced for key `c` (R102). -/
def State.isolateKey (s : State) (c : Nat) : State :=
  s.appendTransition ⟨c, false, s.mxs.passCount, .line⟩

def State.isolateReleases (s : State) : List Nat → Nat → State × Nat
  | [], n => (s, n)
  | c :: cs, n =>
    if s.mxs.expected c && !(s.mxs.key c).resync then (s.isolateKey c).isolateReleases cs (n + 1)
    else s.isolateReleases cs n

def Mxs.liftKeys (m : Mxs) : List Nat → Mxs
  | [] => m
  | c :: cs => (m.setKey c (m.key c).lift).liftKeys cs

/-- A sense line is isolated (R102). -/
def State.isolateLine (s : State) (l : Nat) : State :=
  let s1 := s.setMxs (s.mxs.setLine l { s.mxs.line l with isolated := true, stuck := 0, restore := 0 })
  let (s2, n) := s1.isolateReleases (lineCodes l) 0
  (s2.setMxs (s2.mxs.liftKeys (lineCodes l))).reportLogged .keyLineStuck (.keyline l) (some n)

/-- A sense line is taken out of isolation and reported (R103, R114). -/
def State.restoreLine (s : State) (l : Nat) (detail : Int) : State :=
  (s.setMxs (s.mxs.setLine l { s.mxs.line l with isolated := false, stuck := 0, restore := 0 })).reportLogged
    .keyLineRestored (.keyline l) (some detail)

/-- The test of one sense line at a scan pass, for sticking or for restoration (R102, R103). -/
def State.testLine (s : State) (snap : BitVec 144) (l : Nat) : State :=
  let r := s.mxs.line l
  let codes := lineCodes l
  if r.isolated then
    if codes.any (rawDown s.senseCount snap) then s.setMxs (s.mxs.setLine l { r with restore := 0 })
    else if s.settingN .debouncePasses ≤ r.restore + 1 then s.restoreLine l 0
    else s.setMxs (s.mxs.setLine l { r with restore := r.restore + 1 })
  else
    if codes.all (rawDown s.senseCount snap) then
      if stuckPasses ≤ r.stuck + 1 then s.isolateLine l
      else s.setMxs (s.mxs.setLine l { r with stuck := r.stuck + 1 })
    else s.setMxs (s.mxs.setLine l { r with stuck := 0 })

/-- The tests of a pass, line by line: in ascending order, which the rules leave open (R102, R103; DESIGN CHOICE,
notes/assumptions/19.md). -/
def State.testLines (s : State) (snap : BitVec 144) : List Nat → State
  | [] => s
  | l :: ls => (s.testLine snap l).testLines snap ls

/-- A rectangle stands at the key of code `c`: three other corners read down, the other sense line being neither isolated
nor beyond the strapped count (R101). -/
def rectangle (senses : Nat) (isolated : Nat → Bool) (snap : BitVec 144) (c : Nat) : Bool :=
  (List.range senses).any (fun l =>
    l != senseOf c && !isolated l && rawDown senses snap (keyCode (driveOf c) l) &&
      (List.range 8).any (fun d =>
        d != driveOf c && rawDown senses snap (keyCode d (senseOf c)) && rawDown senses snap (keyCode d l)))

/-- One key's debounce at a scan pass: its new record, and the direction of the transition it produces (R100, R101).
`ghosted` is the outcome of the ghost test for this key. DEDUCED in part, notes/assumptions/13.md. -/
def debounceKey (passes : Nat) (ghosted : Bool) (down : Bool) (k : KeyRec) : KeyRec × Option Bool :=
  let k := { k with raw := down }
  if down = k.debounced then ({ k with count := 0, ghost := false }, none)
  else if !(k.ghost && down) && decide (k.count + 1 < passes) then ({ k with count := k.count + 1 }, none)
  else if !down then ({ k with debounced := false, count := 0 }, some false)
  else if ghosted then ({ k with count := passes, ghost := true }, none)
  else ({ k with debounced := true, count := 0, ghost := false }, some true)

/-- What a scan pass reads: the snapshot, the lines it debounces, and the board. -/
structure PassView where
  senses   : Nat
  passes   : Nat
  diodes   : Bool
  snap     : BitVec 144
  isolated : List Bool
  skipped  : List Bool
deriving DecidableEq, Repr

/-- The ghost test of a key: never on a board with diodes (R101). -/
def PassView.ghosted (v : PassView) (c : Nat) : Bool :=
  !v.diodes && rectangle v.senses (fun l => v.isolated.getD l false) v.snap c

/-- The key's line is scanned in this pass (R97, R99). -/
def PassView.scans (v : PassView) (c : Nat) : Bool :=
  decide (senseOf c < v.senses) && !(v.skipped.getD (senseOf c) false)

/-- The debounce of the keys from code `c` on: the new records and the transitions produced, in code order (R99). -/
def debounceFrom (v : PassView) (pass : Nat) : Nat → List KeyRec → List KeyRec × List Transition
  | _, [] => ([], [])
  | c, k :: ks =>
    let (ks', ts) := debounceFrom v pass (c + 1) ks
    if v.scans c then
      let down := v.snap.getLsbD c
      let (k', t) := debounceKey v.passes (v.ghosted c) down k
      (k' :: ks', (t.map (fun press => ⟨c, press, pass, .scan⟩)).toList ++ ts)
    else (k :: ks', ts)

/-- A scan pass (R99). A line that is isolated before or after the pass's line tests is not debounced in it (R99, R102,
R103). The lines are tested in ascending order, which the rules leave open (DESIGN CHOICE, notes/assumptions/19.md). -/
def State.scanPass (s : State) (snap : BitVec 144) : State :=
  let s1 := s.setMxs { s.mxs with passCount := (s.mxs.passCount + 1) % 65536, passTimer := some (s.settingN .scanIntervalUs) }
  let s2 := s1.testLines snap (List.range s.senseCount)
  let isolated := s2.mxs.lines.map LineRec.isolated
  let v : PassView :=
    { senses := s.senseCount, passes := s.settingN .debouncePasses, diodes := s.sst.straps.diodes, snap := snap,
      isolated := isolated,
      skipped := List.zipWith (· || ·) isolated (s.mxs.lines.map LineRec.isolated) }
  let r := debounceFrom v s2.mxs.passCount 0 s2.mxs.keys
  (s2.setMxs { s2.mxs with keys := r.1 }).appendAll r.2

/-! ### Activity passes (section 5.6) -/

/-- Whether a sense line is counted in an activity pass, and reads active. -/
def countedActive (senses : Nat) (active : BitVec 18) (l : Nat) (r : LineRec) : Bool :=
  decide (l < senses) && !r.isolated && active.getLsbD l

/-- The activity counts of the lines from `l` on, after a pass (R104). -/
def activityLines (senses : Nat) (active : BitVec 18) : Nat → List LineRec → List LineRec
  | _, [] => []
  | l, r :: rs =>
    { r with activity := if countedActive senses active l r then r.activity + 1 else 0 } ::
      activityLines senses active (l + 1) rs

/-- Some counted line reads active. -/
def anyActive (senses : Nat) (active : BitVec 18) : Nat → List LineRec → Bool
  | _, [] => false
  | l, r :: rs => countedActive senses active l r || anyActive senses active (l + 1) rs

def clearActivity (lines : List LineRec) : List LineRec := lines.map (fun r => { r with activity := 0 })

/-- An activity pass: the MXS after it, and whether it raises a KEY wake (R104). -/
def activityPass (senses passes interval : Nat) (active : BitVec 18) (m : Mxs) : Mxs × Bool :=
  let m := { m with passTimer := some interval }
  if m.armed then
    let lines := activityLines senses active 0 m.lines
    if lines.any (fun r => decide (passes ≤ r.activity)) then
      ({ m with lines := clearActivity lines, armed := false }, true)
    else ({ m with lines := lines }, false)
  else ({ m with lines := clearActivity m.lines, armed := !anyActive senses active 0 m.lines }, false)

/-! ### The stall (R109) -/

/-- The stall tested against the thresholds in force after a write of KEY_Q_UPPER or KEY_Q_LOWER; leaving the stall offers
the head (R109). -/
def State.retestStall (s : State) : State :=
  if s.mxs.stalled then
    if s.mxs.queue.length ≤ s.settingN .keyQLower then (s.setMxs { s.mxs with stalled := false }).offerPending else s
  else if s.settingN .keyQUpper ≤ s.mxs.queue.length then s.setMxs { s.mxs with stalled := true }
  else s

end Sys2Proof.Machine
end

