-- ==== Sys2Proof/Machine/Power.lean ====
section
/-! DEFINITION. The Power Sequencer (chapter 7): system power states and the rails, power-up and power-down, power permission
and held starts, wake events, the lid timer, protective shutdown and the notices of R150. -/
namespace Sys2Proof.Machine

/-! ### Changes of system power state (R129) -/

/-- The FNC at a change of system power state (R85, R92). -/
def State.fansFollow (s : State) (old new : SysState) : State :=
  if old = .run ∧ new ≠ .run then s.fansLeaveRun
  else if old ≠ .run ∧ new = .run then s.computeDuty
  else s

/-- The watchdog at a change of system power state (R162). -/
def State.watchdogFollows (s : State) (old new : SysState) : State :=
  if new = .run then (if old = .run then s else s.startWatchdog)
  else if old = .run then s.stopWatchdog
  else s

/-- A change of system power state, handed to the MXS, the FNC and the FLM (R129), in this order (DESIGN CHOICE,
notes/assumptions/19.md); the PBC's poll periods follow at the close of the event (R28). Entry into TRIPPED tests the RAIL_FAULT cause (R161). -/
def State.changeState (s : State) (new : SysState) : State :=
  let old := s.psq.state
  let s1 := (s.setPsq { s.psq with state := new }).mxsDecide
  let s2 := (s1.fansFollow old new).watchdogFollows old new
  if new = .tripped then s2.clearTest .railFault else s2

/-- The STATE notice for the state entered (R150). -/
def State.stateNotice (s : State) (cause : StateCause) : State :=
  s.notice (.state s.psq.state cause s.psq.lidConfirmed)

/-- The down cause as the cause of the state entered (R150). -/
def downStateCause (c : Option DownCause) : StateCause :=
  match c with
  | some c => .down c
  | none => .reset

/-! ### Rails and HRST -/

def State.setMain (s : State) (on : Bool) : State :=
  (s.setPsq { s.psq with mainOn := on }).emit (if s.psq.mainOn = on then [] else [.railEnable .main on])

def State.setCore (s : State) (on : Bool) : State :=
  (s.setPsq { s.psq with coreOn := on }).emit (if s.psq.coreOn = on then [] else [.railEnable .core on])

def State.setHrst (s : State) (asserted : Bool) : State :=
  (s.setPsq { s.psq with hrst := asserted }).emit (if s.psq.hrst = asserted then [] else [.hostReset asserted])

/-! ### Power-up (section 7.2) -/

/-- The SETTLE step (R130). -/
def State.enterSettle (s : State) : State :=
  s.setPsq { s.psq with step := some .settle, stepTimer := some settleMs }

/-- The CORE_WAIT step of SEQ_UP; it ends at once where CORE good reads high (R130). -/
def State.enterCoreWait (s : State) : State :=
  let s1 := s.setCore true
  let s2 := s1.setPsq { s1.psq with step := some .coreWait, stepTimer := some powerGoodMs }
  if s2.psq.coreGood then s2.enterSettle else s2

/-- The MAIN_WAIT step; it ends at once where MAIN good reads high (R130). -/
def State.enterMainWait (s : State) : State :=
  let s1 := s.setMain true
  let s2 := s1.setPsq { s1.psq with step := some .mainWait, stepTimer := some powerGoodMs }
  if s2.psq.mainGood then s2.enterCoreWait else s2

/-- The sequence record as SEQ_UP is entered. -/
def Psq.startUp (q : Psq) (k : StartKind) : Psq :=
  { q with startKind := some k, downTarget := none, downCause := none, restartOrigin := none, held := none }

/-- SEQ_UP from OFF or TRIPPED (R130). -/
def State.seqUpFromOff (s : State) (k : StartKind) : State :=
  ((s.setPsq (s.psq.startUp k)).changeState .seqUp).enterMainWait

/-- SEQ_UP from STANDBY: MAIN is already up (R130). -/
def State.seqUpFromStandby (s : State) : State :=
  ((s.setPsq (s.psq.startUp .wake)).changeState .seqUp).enterCoreWait

/-! ### Permission and starts from OFF (section 7.4) -/

/-- A pack that gives power permission (R134). -/
def State.packPermits (s : State) (p : PackId) : Bool :=
  (s.pack p).dischargeable && decide (s.setting .bootMinPct ≤ (s.pack p).relCharge)

/-- Power permission (R134). -/
def State.permission (s : State) : Bool :=
  decide (0 < s.adn.pContract) || s.packPermits .a || s.packPermits .b

/-- A start from OFF (R135). -/
def State.startFromOff (s : State) (k : StartKind) : State :=
  if s.psq.held.isSome then s
  else if s.permission then s.seqUpFromOff k
  else s.setPsq { s.psq with held := some permissionMs, startKind := some k }

/-- A held start goes on, where permission holds (R135). -/
def State.proceedHeld (s : State) : State :=
  if s.psq.held.isSome ∧ s.permission then s.seqUpFromOff (s.psq.startKind.getD .wake) else s

/-! ### The wake reason list (R138) -/

def Psq.addReason (q : Psq) (w : WakeReason) : Psq :=
  if q.wakeList.contains w || decide (Config.wakeCapacity ≤ q.wakeList.length) then q
  else { q with wakeList := q.wakeList ++ [w] }

def State.addReason (s : State) (w : WakeReason) : State := s.setPsq (s.psq.addReason w)

def State.emptyReasons (s : State) : State := s.setPsq { s.psq with wakeList := [] }

/-- The list holds a reason that starts the system from OFF (R133). -/
def startsFromOff (l : List WakeReason) : Bool :=
  l.any (fun w => w == .button || w == .lid || w == .adapter)

/-! ### Power-down (section 7.3) -/

/-- The restart of R146 at entry into OFF. -/
def State.restartFromOff (s : State) (o : Option RestartOrigin) : State :=
  match o with
  | some .escalation => (s.addReason .restart).startFromOff .escalation
  | _ => s.startFromOff .request

/-- SEQ_DOWN reaches its target: the target is entered and the wake reason list is acted on (R132, R133). -/
def State.finishDown (s : State) : State :=
  let cause := s.psq.downCause
  let origin := s.psq.restartOrigin
  let target := s.psq.downTarget
  let s0 := s.setPsq { s.psq with step := none, stepTimer := none, downTarget := none, restartOrigin := none }
  match target with
  | some .standby =>
    let s1 := (s0.changeState .standby).stateNotice (downStateCause cause)
    if s1.psq.wakeList.isEmpty then s1 else s1.seqUpFromStandby
  | some .tripped =>
    (((s0.setMain false).changeState .tripped).stateNotice (downStateCause cause)).emptyReasons
  | _ =>
    let s1 := ((s0.setMain false).changeState .off).stateNotice (downStateCause cause)
    if cause = some .restart then s1.restartFromOff origin
    else if startsFromOff s1.psq.wakeList then s1.startFromOff .wake
    else s1.emptyReasons

/-- The sequence record as SEQ_DOWN is entered; leaving RUN cancels the lid timer (R132, R144). -/
def Psq.startDown (q : Psq) (t : DownTarget) (c : DownCause) (o : Option RestartOrigin) : Psq :=
  { q with step := some .coreWait, stepTimer := some fallMs, startKind := none, downTarget := some t,
           downCause := some c, restartOrigin := o, lidDelay := none }

/-- A cause that takes STANDBY to its target in the same event, CORE being off there: FORCED_OFF, CRITICAL_OFF and PROTECT
(R142, R147, R148). -/
def DownCause.atOnceFromStandby : DownCause → Bool
  | .forcedOff | .criticalOff | .protect => true
  | .request | .lidTimer | .restart => false

/-- SEQ_DOWN entered: HRST asserted, CORE off, CORE_WAIT. CORE_WAIT ends at once where CORE good reads low (R132), and from
STANDBY for the causes of R142, R147 and R148 (DEDUCED, notes/assumptions/10.md). -/
def State.enterSeqDown (s : State) (t : DownTarget) (c : DownCause) (o : Option RestartOrigin) : State :=
  let fromStandby := s.psq.state = .standby ∧ c.atOnceFromStandby
  let s1 := (s.setHrst true).setCore false
  let s2 := (s1.setPsq (s1.psq.startDown t c o)).changeState .seqDown
  if fromStandby ∨ s2.psq.coreGood = false then s2.finishDown else s2

/-- A host restart (R146). -/
def State.hostRestart (s : State) (o : RestartOrigin) : State := s.enterSeqDown .off .restart (some o)

/-! ### Entry into RUN and the lid timer -/

/-- LID_ACTION is AUTO_STANDBY. -/
def State.lidAutoStandby (s : State) : Bool := decide (s.setting .lidAction = 2)

/-- LID_ACTION is NONE. -/
def State.lidActionNone (s : State) : Bool := decide (s.setting .lidAction = 0)

/-- The lid timer started; with LID_DELAY_S 0 it expires in this event (R144). -/
def State.startLidTimer (s : State) : State :=
  if s.settingN .lidDelayS = 0 then s.enterSeqDown .standby .lidTimer none
  else s.setPsq { s.psq with lidDelay := some (s.settingN .lidDelayS * 1000) }

/-- RUN entered at the end of SETTLE (R130, R144). -/
def State.enterRun (s : State) : State :=
  let k := s.psq.startKind.getD .wake
  let s1 := s.setHrst false
  let s2 := (s1.setPsq { s1.psq with step := none, stepTimer := none }).changeState .run
  let s3 := s2.stateNotice (.start k)
  let s4 := (s3.notice (.wake k s3.psq.wakeList)).emptyReasons
  if s4.psq.lidConfirmed && s4.lidAutoStandby then s4.startLidTimer else s4

/-! ### Wake events (section 7.5) -/

/-- A wake event of a source whose bit is set, by system power state (R137). -/
def State.takeWake (s : State) (w : WakeReason) : State :=
  match s.psq.state with
  | .standby => (s.addReason w).seqUpFromStandby
  | .off => if startsFromOff [w] then (s.addReason w).startFromOff .wake else s
  | .seqUp | .seqDown => s.addReason w
  | .run | .tripped => s

/-- A wake source (R136). -/
def State.wakeSource (s : State) (w : WakeReason) : State := if s.inMask w then s.takeWake w else s

/-! ### Protective shutdown (R148) -/

def State.protectiveShutdown (s : State) : State :=
  match s.psq.state with
  | .run | .seqUp | .standby => s.enterSeqDown .tripped .protect none
  | .seqDown =>
    s.setPsq { s.psq with downTarget := some .tripped, downCause := some .protect, restartOrigin := none }
  | .off =>
    let s1 := s.setPsq { s.psq with held := none, startKind := none, downCause := some .protect }
    ((s1.changeState .tripped).stateNotice (.down .protect)).emptyReasons
  | .tripped => s

end Sys2Proof.Machine
end

