-- ==== Sys2Proof/Machine/Protection.lean ====
section
/-! DEFINITION. The whole of a fault report, with the protective action of a PROTECT report (R160), the release attempt
(R149, R161) and the watchdog's escalation (R163). -/
namespace Sys2Proof.Machine

/-- The protective action of a logged PROTECT report (R160); the LATCH evaluation's PACK notices stand before the STATE notice
of the shutdown (DESIGN CHOICE, notes/assumptions/19.md). -/
def State.protect (s : State) (c : ProtectCause) : State :=
  let wasSet := s.flm.latch.isSet
  let s1 := s.setFlm { s.flm with latch := s.flm.latch.join c }
  let s2 := if wasSet then s1 else s1.trigger .latch
  s2.protectiveShutdown.clearTest c

/-- The FLM takes a fault report (R153). -/
def State.report (s : State) (c : FaultCause) (src : Source) (detail : Option Int) : State :=
  let s1 := s.reportLogged c src detail
  match protectCauseOf c with
  | some pc => s1.protect pc
  | none => s1

/-- The tests of a release attempt (R161). -/
def State.releaseTests (s : State) : State :=
  ((s.clearTest .thermCritical).clearTest .railFault).clearTest .overdrawHold

/-- A confirmed press in TRIPPED (R149). -/
def State.releaseAttempt (s : State) : State :=
  let s1 := s.releaseTests
  if !s1.flm.latch.allClear then s1.report .bootDenied .system (some 1)
  else if !s1.permission then s1.report .bootDenied .system (some 2)
  else
    (((s1.setFlm { s1.flm with latch := .initial }).trigger .latch).addReason .button).seqUpFromOff .release

/-- The FLM escalates at a watchdog expiry that finds U set (R163). -/
def State.escalate (s : State) : State :=
  let count := min 255 (s.flm.retained.escalations + 1)
  let r := s.makeRecord .watchdogSecond .system (some count)
  let f := s.flm.append r
  let s1 := s.setFlm { f with
    retained := { f.retained.note .watchdogSecond with escalations := count }
    u := false, m := false, held := 0, firstHeld := none }
  (s1.urgentNotice ⟨r, false⟩).hostRestart .escalation

end Sys2Proof.Machine
end

