-- ==== Sys2Proof/Machine/Thermal.lean ====
section
/-! DEFINITION. The Thermal Monitor and the tach handling of the Fan Controller (sections 4.1 to 4.4 and 4.7). -/
namespace Sys2Proof.Machine

/-! ### Readings (R73 to R75) -/

def offsetSetting : Fin 4 → SettingId
  | 0 => .sensorOffset0
  | 1 => .sensorOffset1
  | 2 => .sensorOffset2
  | 3 => .sensorOffset3

/-- A reading judged: its value after the offset and the clamp, or the cause that makes it invalid (R73). -/
def judgeReading (status : SensorStatus) (value offset : Int) : Int ⊕ SensorCause :=
  match status with
  | .openWire => .inr .openWire
  | .shorted => .inr .shorted
  | .normal =>
    if -400 ≤ value ∧ value ≤ 1500 then .inl (clampInt (-400) 1500 (value + offset)) else .inr .range

/-- A valid reading applied to its slot; the flag says that the sensor is restored (R74). -/
def SensorSlot.takeValid (k : SensorSlot) (v : Int) : SensorSlot × Bool :=
  match k.cond with
  | .pending => ({ k with cond := .valid, value := some v, invalid := 0 }, false)
  | .valid => ({ k with value := some v, invalid := 0 }, false)
  | .marked =>
    if k.valid < 2 then ({ k with value := some v, valid := k.valid + 1 }, false)
    else (⟨.valid, some v, 0, 0, none⟩, true)

/-- An invalid reading applied to its slot; the flag says that the sensor is lost (R75). -/
def SensorSlot.takeInvalid (k : SensorSlot) (c : SensorCause) : SensorSlot × Bool :=
  match k.cond with
  | .marked => ({ k with valid := 0 }, false)
  | _ =>
    if k.invalid < 2 then ({ k with invalid := k.invalid + 1 }, false)
    else ({ k with cond := .marked, invalid := 3, valid := 0, mark := some c }, true)

/-! ### The aggregate (R76) -/

/-- The running result of the fold (R76). -/
inductive Fold where
  | value (v : Int) (source : Fin 4)
  | mark (source : Fin 4) (cause : SensorCause)
  | pending
deriving DecidableEq, Repr

/-- A slot as the fold takes it (R76). -/
def SensorSlot.folded (k : SensorSlot) (n : Fin 4) : Fold :=
  match k.cond with
  | .valid => .value (k.value.getD 0) n
  | .marked => .mark n (k.mark.getD .openWire)
  | .pending => .pending

/-- The running result meets the next included sensor (R76). -/
def Fold.meet : Fold → Fold → Fold
  | .value v a, .value w b => if v < w then .value w b else .value v a
  | .value v a, _ => .value v a
  | _, .value w b => .value w b
  | .mark a c, _ => .mark a c
  | .pending, x => x

/-- The sensor's bit is set in SENSOR_INCLUDE (R76). -/
def State.included (s : State) (n : Fin 4) : Bool := (s.settingN .sensorInclude).testBit n.val

/-- The included sensors, in index order. -/
def State.includedSensors (s : State) : List (Fin 4) := [0, 1, 2, 3].filter s.included

/-- The fold of the included sensors (R76). -/
def foldSensors (slots : PerSensor SensorSlot) : List (Fin 4) → Fold
  | [] => .pending
  | n :: ns => ns.foldl (fun acc k => acc.meet ((slots.get k).folded k)) ((slots.get n).folded n)

/-- The aggregate: PENDING where no included sensor is VALID and one is PENDING, whatever marks the fold met (R76). -/
def State.fold (s : State) : Aggregate :=
  match foldSensors s.thm.slots s.includedSensors with
  | .value v n => .valid v n
  | .pending => .pending
  | .mark n c => if s.includedSensors.any (fun k => (s.thm.slots.get k).cond == .pending) then .pending else .invalid n c

/-! ### Thresholds (section 4.3) -/

/-- The THERM_HIGH test (R78). -/
def State.testHigh (s : State) : State :=
  match s.thm.aggregate with
  | .valid t n =>
    if s.thm.highArm then
      if s.setting .thermUrgent ≤ t then
        (s.setThm { s.thm with highArm := false }).report .thermHigh (.sensor n) (some t)
      else s
    else if t < s.setting .thermUrgent - 50 then s.setThm { s.thm with highArm := true }
    else s
  | _ => s

/-- The THERM_CRITICAL test (R79). -/
def State.testCritical (s : State) : State :=
  match s.thm.aggregate with
  | .valid t n =>
    if s.thm.critArm then
      if s.setting .thermCrit ≤ t then
        (s.setThm { s.thm with critArm := false }).report .thermCritical (.sensor n) (some t)
      else s
    else if t < s.setting .thermUrgent then s.setThm { s.thm with critArm := true }
    else s
  | _ => s

/-- The THERM_BLIND test (R80). -/
def State.testBlind (s : State) : State :=
  match s.thm.aggregate with
  | .invalid _ _ =>
    if s.thm.blind then s
    else (s.setThm { s.thm with blind := true }).report .thermBlind .system (some (s.setting .sensorInclude))
  | _ => s.setThm { s.thm with blind := false }

/-! ### The derate factor (section 4.4) -/

/-- D before fans (R81). -/
def derateBase (agg : Aggregate) (start finish : Int) : Nat :=
  match agg with
  | .valid t _ =>
    if finish ≤ t then 0
    else if t ≤ start then 256
    else (256 * (finish - t) / (finish - start)).toNat
  | _ => 0

/-- D, from the aggregate and the present fans' degraded flags (R81). -/
def State.derateFactor (s : State) : Nat :=
  let base := derateBase s.thm.aggregate (s.setting .derateStart) (s.setting .derateEnd)
  if s.allDegraded then 0 else if s.anyDegraded then base / 2 else base

/-- D computed again after a change of a degraded flag; a change of D is handed to the CBU (R82). -/
def State.updateDerate (s : State) : State :=
  let d := s.derateFactor
  if d = s.thm.d then s else (s.setThm { s.thm with d := d }).trigger .derate

/-- A changed aggregate handed to the FNC and the FLM (R77). -/
def State.handAggregate (s : State) (old : Aggregate) : State :=
  if s.thm.aggregate = old then s else s.computeDuty.clearTest .thermCritical

/-- The latch has become set since `before`: its LATCH trigger has had its evaluation (R160). -/
def State.latchedSince (s before : State) : Bool := !before.flm.latch.isSet && s.flm.latch.isSet

/-- A recomputation: the fold, its change handed on, then D and the three threshold tests (R77, R80). The D of the event
stands before the tests hand on their reports, so that the one evaluation of an event that both sets the latch and changes D
reads it (R50); that evaluation is recorded as LATCH, the trigger handed first (DEDUCED, notes/assumptions/9.md). -/
def State.recompute (s : State) : State :=
  let old := s.thm.aggregate
  let s1 := (s.setThm { s.thm with aggregate := s.fold }).handAggregate old
  let s2 := s1.setThm { s1.thm with d := s1.derateFactor }
  let s3 := s2.testHigh.testCritical.testBlind
  if s2.thm.d = s1.thm.d ∨ s3.latchedSince s2 then s3 else s3.trigger .derate

/-- A reading arrives (R73 to R77). -/
def State.sensorReading (s : State) (n : Fin 4) (status : SensorStatus) (value : Int) : State :=
  let k := s.thm.slots.get n
  let put := fun k' => s.setThm { s.thm with slots := s.thm.slots.set n k' }
  let s1 := match judgeReading status value (s.setting (offsetSetting n)) with
    | .inl v =>
      let (k', restored) := k.takeValid v
      if restored then (put k').report .sensorRestored (.sensor n) (some v) else put k'
    | .inr c =>
      let (k', lost) := k.takeInvalid c
      if lost then (put k').report .sensorLost (.sensor n) (some (sensorCauseCode c)) else put k'
  s1.recompute

/-! ### Tach reports (section 4.7) -/

/-- What a tach report asks for beyond the slot's own change. -/
inductive TachEvent where
  | none | stalled | restored
deriving DecidableEq, Repr

/-- A tach report in RUN applied to the fan's slot (R89 to R91). -/
def FanSlot.takeTach (f : FanSlot) (rpm minDuty stallRpm : Nat) : FanSlot × TachEvent :=
  let f := { f with rpm := some rpm }
  if f.degraded then
    if stallRpm ≤ rpm then
      if f.recovery + 1 < 3 then ({ f with recovery := f.recovery + 1 }, .none)
      else ({ f with degraded := false, recovery := 0, stall := 0, grace := 0 }, .restored)
    else ({ f with recovery := 0 }, .none)
  else if 0 < f.grace then ({ f with grace := f.grace - 1, stall := 0 }, .none)
  else if 0 < f.applied ∧ minDuty ≤ f.applied ∧ rpm < stallRpm then
    if f.stall + 1 < 3 then ({ f with stall := f.stall + 1 }, .none)
    else ({ f with degraded := true, stall := 0, recovery := 0 }, .stalled)
  else ({ f with stall := 0 }, .none)

/-- FANS_FAILED, where every present fan has become degraded (R90). -/
def State.reportFansFailed (s : State) : State :=
  if s.allDegraded then s.report .fansFailed .system none else s

/-- A tach report arrives; outside RUN, or for a fan the board lacks, it is ignored (R89 to R91). -/
def State.tachReport (s : State) (f : FanId) (rpm : Nat) : State :=
  if s.psq.state = .run ∧ s.hasFan f then
    let (k, ev) := (s.fnc.fans.get f).takeTach rpm (s.settingN .fanMinDuty) (s.settingN .fanStallRpm)
    let s1 := s.setFnc { s.fnc with fans := s.fnc.fans.set f k }
    match ev with
    | .none => s1
    | .stalled => ((s1.report .fanStall (.fan f) (some rpm)).reportFansFailed).updateDerate.computeDuty
    | .restored => (s1.report .fanRestored (.fan f) (some rpm)).updateDerate.computeDuty
  else s

end Sys2Proof.Machine
end

