-- ==== Sys2Proof/Machine/Adapter.lean ====
section
/-! DEFINITION. The Adapter Negotiator (sections 1.3 to 1.8): offer checks and ranking, selections, the contract record and
P_contract, ADAPTER notices. -/
namespace Sys2Proof.Machine

/-! ### Offers and candidates (R4, R12) -/

/-- An offer within the checks of R4. -/
def offerOk (o : Offer) : Bool :=
  decide (5000 ≤ o.voltage) && decide (o.voltage ≤ 48000) && o.voltage % 100 == 0 &&
  decide (o.current ≤ 5000) && o.current % 10 == 0

/-- An ABILITY that R4 does not discard. -/
def abilityOk (checkOk : Bool) (offers : List Offer) : Bool :=
  checkOk && decide (1 ≤ offers.length) && decide (offers.length ≤ 6) && offers.all offerOk

/-- An ACCEPT, REJECT or READY that R4 does not discard. -/
def answerOk (checkOk : Bool) (index : Nat) : Bool := checkOk && decide (index ≤ 5)

/-- The score of an offer (R12). -/
def offerScore (cap : Nat) (o : Offer) : Nat := min (o.voltage * o.current / 1000) cap

/-- The contract power of a score (R12, R18). -/
def scorePower (efficiency score : Nat) : Nat := score * efficiency / 256

/-- The offer is a candidate (R12). -/
def isCandidate (vMin vMax : Int) (o : Offer) : Bool :=
  decide (vMin ≤ (o.voltage : Int)) && decide ((o.voltage : Int) ≤ vMax) && decide (0 < o.current)

/-- The ranking: score highest first, then voltage lower first, then index lower first (R12). -/
def ranksBefore (cap : Nat) (x y : Nat × Offer) : Bool :=
  let sx := offerScore cap x.2
  let sy := offerScore cap y.2
  decide (sy < sx) ||
    (sx == sy && (decide (x.2.voltage < y.2.voltage) || (x.2.voltage == y.2.voltage && decide (x.1 < y.1))))

def rankInsert (cap : Nat) (x : Nat × Offer) : List (Nat × Offer) → List (Nat × Offer)
  | [] => [x]
  | y :: ys => if ranksBefore cap x y then x :: y :: ys else y :: rankInsert cap x ys

def rankAll (cap : Nat) : List (Nat × Offer) → List (Nat × Offer)
  | [] => []
  | x :: xs => rankInsert cap x (rankAll cap xs)

/-- Offers with their indices, from `n` on (section 1.3). -/
def indexed : Nat → List Offer → List (Nat × Offer)
  | _, [] => []
  | n, o :: os => (n, o) :: indexed (n + 1) os

/-- The candidates' indices, best first (R12). -/
def rankCandidates (vMin vMax : Int) (cap : Nat) (offers : List Offer) : List Nat :=
  (rankAll cap ((indexed 0 offers).filter (fun x => isCandidate vMin vMax x.2))).map Prod.fst

/-- The best untried candidate (R12). -/
def Adn.bestUntried (a : Adn) : Option Nat := a.candidates.find? (fun i => !a.tried.contains i)

/-- The offer of an index. -/
def Adn.offer (a : Adn) (i : Nat) : Offer := a.offers.getD i ⟨0, 0⟩

/-- P_offer of an offer index, with the settings in force (R12). -/
def State.pOffer (s : State) (i : Nat) : Nat :=
  scorePower (s.settingN .efficiency) (offerScore (s.settingN .powerCapMw) (s.adn.offer i))

/-! ### The contract record (R18) -/

/-- min(LEGACY_MW, POWER_CAP_MW). -/
def State.legacyPower (s : State) : Nat := min (s.settingN .legacyMw) (s.settingN .powerCapMw)

/-- The legacy record for a bus voltage (R18). -/
def State.legacyRecord (s : State) (vBus : Nat) : Contract :=
  ⟨.legacy, none, vBus, s.legacyPower * 1000 / vBus, s.legacyPower, s.legacyPower⟩

/-- The negotiated record of an offer index (R18). -/
def State.negotiatedRecord (s : State) (i : Nat) : Contract :=
  let o := s.adn.offer i
  ⟨.negotiated, some i, o.voltage, o.current, offerScore (s.settingN .powerCapMw) o, s.pOffer i⟩

/-- A record recomputed with the settings in force (R19). -/
def State.recomputeRecord (s : State) (c : Contract) : Contract :=
  match c.source with
  | .negotiated =>
    let score := offerScore (s.settingN .powerCapMw) ⟨c.voltage, c.current⟩
    { c with score := score, pContract := scorePower (s.settingN .efficiency) score }
  | .legacy =>
    { c with score := s.legacyPower, pContract := s.legacyPower, current := s.legacyPower * 1000 / c.voltage }

/-! ### Handing on (R17, R22) -/

/-- A change of P_contract since `before` is handed to the CBU (R17). The PACK notices of that evaluation are placed before
the event's ADAPTER notice, which no rule orders (DESIGN CHOICE, notes/assumptions/19.md). -/
def State.handContract (s before : State) : State :=
  if s.adn.pContract = before.adn.pContract then s else s.trigger .contract

/-- The values an ADAPTER notice gives (R22). -/
def State.adapterView (s : State) : AdapterView :=
  ⟨s.adn.state, s.adn.pContract, s.adn.record, s.adn.offers.length, s.adn.outstanding⟩

/-- The ADAPTER notice of an event that has changed the adapter state or P_contract since `before` (R22). It stands behind the
PACK notices of the event's CONTRACT evaluation (DESIGN CHOICE, notes/assumptions/19.md). -/
def State.notifyAdapter (s before : State) : State :=
  if s.adn.state = before.adn.state ∧ s.adn.pContract = before.adn.pContract then s
  else s.notice (.adapter s.adapterView)

/-- A message on the adapter link. -/
def State.sendAdapter (s : State) (m : AdapterMessage) : State := s.emit [.adapterLink m]

/-! ### The exchange -/

/-- QUERY sent, QUERYING entered, the ability timer started (R7, R8, R20). -/
def State.sendQuery (s : State) : State :=
  (s.setAdn { s.adn with state := .querying, timer := some abilityMs }).sendAdapter .query

/-- A selection sent for a candidate: the cut first, then the SELECT (R13). -/
def State.sendSelect (s : State) (i : Nat) : State :=
  let s1 := (s.setAdn { s.adn with pContract := min (s.pOffer i) s.adn.pContract }).handContract s
  (s1.setAdn { s1.adn with state := .selecting, tried := s1.adn.tried ++ [i], outstanding := some i,
                           timer := some selectMs }).sendAdapter (.select i)

/-- The ADN without a contract, in REJECTED (R10, R11, R15). -/
def Adn.noContract (a : Adn) : Adn :=
  { a with state := .rejected, candidates := [], tried := [], outstanding := none, timer := none, record := none,
           pContract := 0 }

/-- A selection fails (R15): the evaluation's PACK notices are placed before the report's ADVISORY notice (DESIGN CHOICE,
notes/assumptions/19.md). -/
def State.selectionFails (s : State) : State :=
  let last : Int := (s.adn.outstanding.getD 0 : Nat)
  ((s.setAdn s.adn.noContract).handContract s).report .adapterRejected .adapter (some last)

/-- A failure of the outstanding SELECT (R15). -/
def State.selectFails (s : State) : State :=
  match s.adn.bestUntried with
  | some i => if s.adn.tried.length < 2 then s.sendSelect i else s.selectionFails
  | none => s.selectionFails

/-- An accepted ABILITY starts a selection (R11); without a candidate its PACK notices stand before the ADVISORY
notice (DESIGN CHOICE, notes/assumptions/19.md). -/
def State.startSelection (s : State) (offers : List Offer) : State :=
  let cands := rankCandidates (s.setting .adapterVMin) (s.setting .adapterVMax) (s.settingN .powerCapMw) offers
  let a : Adn := { s.adn with offers := offers, candidates := cands, tried := [], outstanding := none, timer := none }
  match cands with
  | [] => ((s.setAdn a.noContract).handContract s).report .adapterNoOffer .adapter (some offers.length)
  | i :: _ => (s.setAdn a).sendSelect i

/-- The ability timer expires in QUERYING (R10); without legacy power the PACK notices stand before the
ADVISORY notice (DESIGN CHOICE, notes/assumptions/19.md). -/
def State.abilityExpires (s : State) : State :=
  let v := match s.pim.sample with
    | some m => m.vBus
    | none => 0
  if 4500 ≤ v then
    (s.setAdn { s.adn with state := .legacy, timer := none, record := some (s.legacyRecord v),
                           pContract := s.legacyPower }).handContract s
  else
    ((s.setAdn { s.adn with state := .rejected, timer := none, record := none, pContract := 0 }).handContract s).report
      .adapterNoOffer .adapter (some 0)

/-- READY taken: the contract is made (R16). -/
def State.readyTaken (s : State) (i : Nat) : State :=
  (s.setAdn { s.adn with state := .contract, candidates := [], tried := [], outstanding := none, timer := none,
                         record := some (s.negotiatedRecord i), pContract := s.pOffer i }).handContract s

/-- P_contract after a write of EFFICIENCY, POWER_CAP_MW or LEGACY_MW, the record already recomputed (R19). -/
def State.rewrittenContract (s : State) : Nat :=
  match s.adn.record, s.adn.state with
  | some c, .contract | some c, .legacy => c.pContract
  | some c, .querying => min s.adn.pContract c.pContract
  | some c, .selecting | some c, .switching =>
    min (min s.adn.pContract c.pContract)
      (match s.adn.outstanding with
       | some i => s.pOffer i
       | none => s.adn.pContract)
  | _, _ => s.adn.pContract

/-- A write of EFFICIENCY, POWER_CAP_MW or LEGACY_MW at the ADN (R19). -/
def State.contractSettingWritten (s : State) : State :=
  let s1 := s.setAdn { s.adn with record := s.adn.record.map s.recomputeRecord }
  let s2 := (s1.setAdn { s1.adn with pContract := s1.rewrittenContract }).handContract s
  s2.notifyAdapter s

/-- A renegotiation in any state but DETACHED (R20). -/
def State.renegotiate (s : State) : State :=
  (s.setAdn { s.adn with outstanding := none, candidates := [], tried := [] }).sendQuery

end Sys2Proof.Machine
end

