-- ==== Sys2Proof/Machine/Packs.lean ====
section
/-! DEFINITION. The Pack Bus Controller (chapter 2): the bus operation list, polls and raw reads, presence, the pack records,
the coulomb accumulator, the charge thresholds. -/
namespace Sys2Proof.Machine

/-! ### Replies (R172, R189) -/

/-- The reply to a request of kind `kind`: its status, then its content. -/
def replyTo (kind : Nat) (tag : Byte) (st : Status) (content : List Byte) : Reply :=
  ⟨BitVec.ofNat 8 (kind + 0x80), tag, u8 (statusCode st) ++ content⟩

/-- A reply made (R172). -/
def State.reply (s : State) (kind : Nat) (tag : Byte) (st : Status) (content : List Byte := []) : State :=
  s.setLnk (s.lnk.addReply (replyTo kind tag st content))

def rawReadKind : Nat := 0x07

/-! ### The bus operation list (R26, R27) -/

/-- The read request of an operation: first field and field count (R26). -/
def BusOpKind.request : BusOpKind → Nat × Nat
  | .poll => (0, 7)
  | .rawRead f _ => (f, 1)

/-- The head starts: its read request is sent and its response timer started (R26). -/
def State.startHead (s : State) : State :=
  match s.pbc.ops with
  | [] => s.setPbc { s.pbc with busTimer := none }
  | o :: _ =>
    (s.setPbc { s.pbc with busTimer := some responseMs }).emit
      [.packBusRead o.pack o.kind.request.1 o.kind.request.2]

/-- An entry joins the tail; on an empty list it starts (R27). -/
def State.appendOp (s : State) (o : BusOp) : State :=
  let s1 := s.setPbc { s.pbc with ops := s.pbc.ops ++ [o] }
  if s.pbc.ops.isEmpty then s1.startHead else s1

/-- The head leaves the list and the next one, if any, starts (R27). -/
def State.finishHead (s : State) : State := (s.setPbc { s.pbc with ops := s.pbc.ops.tail }).startHead

/-- The operation on the bus (R27). -/
def State.onBus (s : State) : Option BusOp := if s.pbc.busTimer.isSome then s.pbc.ops.head? else none

/-- The poll of a pack is due: appended unless one of that pack is listed (R29; DEDUCED, notes/assumptions/8.md). -/
def State.pollDue (s : State) (p : PackId) : State :=
  if s.pbc.ops.any (fun o => o.pack == p && !o.isRaw) then s else s.appendOp ⟨p, .poll, false⟩

/-! ### Poll periods (R28) -/

/-- The poll period of a pack, absent in ABSENT (R28). -/
def pollPeriod (st : SysState) (k : Pack) : Option Nat :=
  match k.state with
  | .absent => none
  | .halted =>
    if k.cause = some .gaugeSilent then some 4000 else some (if st = .run then 250 else 4000)
  | .charging => some (if st = .run then 250 else 1000)
  | _ => some (if st = .run then 250 else 4000)

/-- A pack's poll timer restarted with its period. -/
def State.restartPollTimer (s : State) (p : PackId) : State :=
  s.setPack p { s.pack p with pollTimer := pollPeriod s.psq.state (s.pack p) }

/-- The poll timer at the close of an event that has changed the period that applies (R28). -/
def State.syncPollTimer (s before : State) (p : PackId) : State :=
  let old := pollPeriod before.psq.state (before.pack p)
  let new := pollPeriod s.psq.state (s.pack p)
  if old.isSome ∧ new.isSome ∧ old ≠ new then s.restartPollTimer p else s

/-! ### Presence (R24, R25) -/

/-- The record prepared for a new pack (R24). -/
def Pack.seat (k : Pack) : Pack :=
  { k with state := .ident, seated := true, gauge := none, failCount := 0, cause := none, accum := 0, lastPoll := none,
           low := false, critical := false }

/-- The record of a pack that falls; the accumulator is kept (R25). -/
def Pack.unseat (k : Pack) : Pack :=
  { k with state := .absent, seated := false, gauge := none, failCount := 0, cause := none, lastPoll := none,
           low := false, critical := false, pollTimer := none }

/-- A rise's changes at the PBC, before the CBU is triggered (R24): its poll's read request goes before the evaluation's writes
(DESIGN CHOICE, notes/assumptions/19.md). -/
def State.packRises (s : State) (p : PackId) : State :=
  ((s.setPack p (s.pack p).seat).pollDue p).restartPollTimer p

/-- The raw reads among the entries removed at a fall are answered ABSENT (R25), in the order of the list, which the rule
leaves open (DESIGN CHOICE, notes/assumptions/19.md). -/
def State.answerGone (s : State) : List BusOp → State
  | [] => s
  | o :: os =>
    match o.kind with
    | .rawRead _ tag => (s.reply rawReadKind tag .absent).answerGone os
    | .poll => s.answerGone os

/-- A fall's changes at the PBC, before the CBU is triggered (R25): the pack's unstarted operations are removed, its
operation on the bus runs on, its record is emptied (DEDUCED where a raw read is on the bus, notes/assumptions/8.md). -/
def State.packFalls (s : State) (p : PackId) : State :=
  let mine := fun o : BusOp => o.pack == p
  let (started, waiting) :=
    if s.pbc.busTimer.isSome then (s.pbc.ops.take 1, s.pbc.ops.drop 1) else ([], s.pbc.ops)
  let started := started.map (fun o => if mine o then { o with gone := true } else o)
  let s1 := s.setPbc { s.pbc with ops := started ++ waiting.filter (fun o => !mine o) }
  let s2 := s1.answerGone (waiting.filter mine)
  let s3 := if (s2.pack p).state = .halted then s2.clearPackMark p else s2
  s3.setPack p (s3.pack p).unseat

/-! ### A poll completes (R30, R37, R41) -/

/-- A 16-bit word as a signed number. -/
def signedWord (w : Word16) : Int := w.toInt

/-- The gauge fields of a poll's seven words, clamped to their ranges (R26, sections 2.2 and 11.3). -/
def gaugeOf (words : List Word16) : Gauge :=
  let w := fun i => words.getD i 0
  { voltage := min 25000 (w 0).toNat
    current := clampInt (-15000) 15000 (signedWord (w 1))
    temperature := clampInt (-400) 1500 (signedWord (w 2))
    relCharge := min 100 (w 3).toNat
    ireq := min 8000 (w 4).toNat
    reqVoltage := min 25000 (w 5).toNat
    full := (w 6).getLsbD 0
    overTemp := (w 6).getLsbD 1
    overVoltage := (w 6).getLsbD 2
    terminateDischarge := (w 6).getLsbD 3 }

/-- The accumulator's limit, 2^47 − 1 (R37). -/
def accumMax : Int := 2 ^ 47 - 1

/-- The accumulator after a successful poll at time `now` (R37). -/
def accumulate (acc : Int) (lastPoll : Option Nat) (now : Nat) (current : Int) : Int :=
  match lastPoll with
  | none => acc
  | some t => clampInt (-accumMax) accumMax (acc + current * (max 1 (min 5000 (now - t)) : Nat))

/-- The state and HALTED cause that the flags of a successful poll call for, before the working-state decision (R30,
R34). -/
def stateAfterPoll (k : Pack) (g : Gauge) : PackState × Option HaltCause :=
  if k.state = .halted ∧ k.cause = some .gaugeSilent then (.ident, none)
  else if g.overVoltage then (.halted, some .packOvervolt)
  else if g.overTemp then (.halted, some .packHot)
  else if k.state.working then (k.state, none)
  else (.ready, none)

/-- The low and critical flags after a poll (R41). -/
def lowAfter (was : Bool) (pct rc : Int) : Bool := if was then decide (rc < pct + 3) else decide (rc ≤ pct)
def criticalAfter (was : Bool) (pct rc : Int) : Bool := if was then decide (rc < pct + 2) else decide (rc ≤ pct)

/-- The record after a successful poll, before the working-state decision (R30, R37, R41). -/
def Pack.takePoll (k : Pack) (g : Gauge) (now : Nat) (lowPct critPct : Int) : Pack :=
  let sc := stateAfterPoll k g
  { k with
    gauge := some g, failCount := 0, accum := accumulate k.accum k.lastPoll now g.current, lastPoll := some now,
    state := sc.1, cause := sc.2,
    low := lowAfter k.low lowPct g.relCharge, critical := criticalAfter k.critical critPct g.relCharge }

/-- The report of an entry into HALTED, or of a change of cause there (R33). -/
def State.reportHalt (s : State) (p : PackId) : State :=
  let k := s.pack p
  match k.cause, k.gauge with
  | some .gaugeSilent, _ => s.report .packSilent (.pack p) none
  | some .packHot, some g => s.report .packHot (.pack p) (some g.temperature)
  | some .packOvervolt, some g => s.report .packOvervolt (.pack p) (some g.voltage)
  | _, _ => s

/-- A PBC event hands the CBU a trigger: a pack's state, eligibility or dischargeability has changed (R30, R50). -/
def State.packTriggers (s before : State) (p : PackId) : Bool :=
  !(decide ((s.pack p).state = (before.pack p).state) && s.eligible p == before.eligible p &&
    (s.pack p).dischargeable == (before.pack p).dischargeable)

/-- The evaluation that a PBC event hands the CBU, where it is due, and the event's PACK notices (R30, R47, R50). -/
def State.packTrigger (s before : State) (p : PackId) : State :=
  if s.packTriggers before p then s.evaluateSince before .pack else s.notifyPacks (s.packDiffers before)

/-- The critical battery test of PACK_CRIT (R147). -/
def State.criticalTest (s : State) : Bool :=
  let spent := fun p => !(s.pack p).dischargeable || decide (((s.pack p).relCharge : Int) ≤ s.setting .packCritPct)
  decide (s.psq.state = .standby) && decide (s.adn.pContract = 0) && spent .a && spent .b

/-- A PACK_CRIT event at the PSQ (R147). -/
def State.packCrit (s : State) (p : PackId) : State :=
  if s.criticalTest then
    (s.report .criticalOff (.pack p) (some (s.pack p).relCharge)).enterSeqDown .off .criticalOff none
  else s

/-- What a good response to a poll makes of the record: the fields and flags stored, the state its flags call for, the mark of
a pack that leaves HALTED cleared, and the working-state decision with the latest evaluation's results (R30, R34, R35). -/
def State.pollStored (s : State) (p : PackId) (words : List Word16) : State :=
  let k := s.pack p
  let k' := k.takePoll (gaugeOf words) s.time (s.setting .packLowPct) (s.setting .packCritPct)
  let s1 := s.setPack p k'
  (if k.state = .halted ∧ k'.state ≠ .halted then s1.clearPackMark p else s1).decidePack p

/-- A good response to a poll of a pack that is not ABSENT (R30). The event's PACK notices are placed before the ADVISORY notice
of a halt's report, which no rule orders (DESIGN CHOICE, notes/assumptions/19.md). -/
def State.pollCompletes (s : State) (p : PackId) (words : List Word16) : State :=
  let k := s.pack p
  let first := k.gauge.isNone
  let s1 := s.pollStored p words
  let k' := s1.pack p
  let s2 := s1.packTrigger s p
  let s3 := if k'.state = .halted ∧ k'.cause ≠ k.cause then s2.reportHalt p else s2
  let s4 := if k'.critical && !k.critical && !first then s3.packCrit p else s3
  if k'.low && !k.low && !first then s4.wakeSource .packLow else s4

/-- A poll of a pack that is not ABSENT fails (R31). The event's PACK notices are placed before the ADVISORY notice of
PACK_SILENT, which no rule orders (DESIGN CHOICE, notes/assumptions/19.md). -/
def State.pollFails (s : State) (p : PackId) : State :=
  let k := s.pack p
  if k.failCount = 2 ∧ ¬ (k.state = .halted ∧ k.cause = some .gaugeSilent) then
    let s1 := s.setPack p { k with failCount := 3, state := .halted, cause := some .gaugeSilent }
    (s1.packTrigger s p).reportHalt p
  else s.setPack p { k with failCount := min 3 (k.failCount + 1) }

/-! ### Responses and timeouts -/

/-- The operation on the bus is a poll of the pack. -/
def State.pollOnBus (s : State) (p : PackId) : Option BusOp :=
  s.onBus.filter (fun o => o.pack == p && !o.isRaw)

/-- The operation on the bus is a raw read of the pack. -/
def State.rawOnBus (s : State) (p : PackId) : Option BusOp :=
  s.onBus.filter (fun o => o.pack == p && o.isRaw)

/-- The poll's result counts: the pack has not fallen since, and is not ABSENT (R25, R30). -/
def State.pollCounts (s : State) (o : BusOp) : Bool := !o.gone && decide ((s.pack o.pack).state ≠ .absent)

/-- A response to a poll (R26, R30). The next operation's read request is written before the charger and path switch writes of
the same event, which no rule orders (DESIGN CHOICE, notes/assumptions/19.md). -/
def State.pollResponse (s : State) (p : PackId) (current checkOk : Bool) (words : List Word16) : State :=
  match s.pollOnBus p with
  | none => s
  | some o =>
    if current ∧ checkOk ∧ words.length = 7 then
      if s.pollCounts o then s.finishHead.pollCompletes p words else s.finishHead
    else s

/-- The response timer of a poll expires (R26, R31); the next operation's read request is written first, as at a response
(DESIGN CHOICE, notes/assumptions/19.md). -/
def State.pollTimeout (s : State) (p : PackId) : State :=
  match s.pollOnBus p with
  | none => s
  | some o => if s.pollCounts o then s.finishHead.pollFails p else s.finishHead

/-- A raw read is answered as it leaves the list (R44). -/
def State.answerRaw (s : State) (o : BusOp) (st : Status) (word : Word16) : State :=
  match o.kind with
  | .poll => s
  | .rawRead f tag =>
    if o.gone then s.reply rawReadKind tag .absent
    else if st = .ok then s.reply rawReadKind tag .ok (u8 (packCode o.pack) ++ u8 f ++ u16 word.toNat)
    else s.reply rawReadKind tag st

/-- A response to a raw read (R26, R44). -/
def State.rawReadResponse (s : State) (p : PackId) (current checkOk : Bool) (words : List Word16) : State :=
  match s.rawOnBus p with
  | none => s
  | some o => if current ∧ checkOk ∧ words.length = 1 then s.finishHead.answerRaw o .ok (words.getD 0 0) else s

/-- The response timer of a raw read expires (R44). -/
def State.rawReadTimeout (s : State) (p : PackId) : State :=
  match s.rawOnBus p with
  | none => s
  | some o => s.finishHead.answerRaw o .gaugeSilent 0

end Sys2Proof.Machine
end

