-- ==== Sys2Proof/Machine/Settings.lean ====
section
/-! DEFINITION. The Settings Store (chapter 10): straps, the clamps of a written value, and what each block does with a written
setting. -/
namespace Sys2Proof.Machine

/-- The straps the levels give (section 10.1). -/
def latchStraps (l : StrapLevels) : Straps where
  twoPacks := l.packCount != .low
  twoFans := l.fanCount != .low
  senseLines := match l.senseLines with
    | .low => .n12
    | .openPin => .n16
    | .high => .n18
  diodes := l.diodes == .high
  linkRate := match l.linkRate with
    | .low => .b460800
    | .openPin => .b921600
    | .high => .b3000000
  autoOn := l.autoOn == .high

/-- The setting is answered ABSENT on this board (R181, R182). -/
def State.settingAbsent (s : State) (i : SettingId) : Bool :=
  (i == .packWeightB || i == .packImaxB) && !s.hasPack .b

/-- Step 2 of R182: the clamp against the partner's stored value. -/
def pairClamp (c : Settings) (i : SettingId) (v : Int) : Int :=
  match i with
  | .keyQUpper => max v (c.keyQLower + 1)
  | .keyQLower => min v (c.keyQUpper - 1)
  | .derateStart => min v (c.derateEnd - 10)
  | .derateEnd => max v (c.derateStart + 10)
  | .thermUrgent => min v (c.thermCrit - 20)
  | .thermCrit => max v (c.thermUrgent + 20)
  | .adapterVMin => min v c.adapterVMax
  | .adapterVMax => max v c.adapterVMin
  | _ => v

/-- The stored WAKE_MASK of a written set: codes that name no source dropped, BUTTON added (R183). -/
def storedMask (v : Int) : Int := ((v % 64).toNat ||| 1 : Nat)

/-- The value a write stores (R182, R183). -/
def storedValue (c : Settings) (i : SettingId) (v : Int) : Int :=
  if i = .wakeMask then storedMask v
  else pairClamp c i (clampInt (settingRange i).1 (settingRange i).2 v)

/-- The SST stores a value. -/
def State.store (s : State) (i : SettingId) (v : Int) : State :=
  s.setSst { s.sst with settings := s.sst.settings.set i v }

/-- The running pass timer restarted with SCAN_INTERVAL_US (section 5.12). -/
def State.restartPassTimer (s : State) : State :=
  if s.mxs.passTimer.isSome then s.setMxs { s.mxs with passTimer := some (s.settingN .scanIntervalUs) } else s

/-- A write of WATCHDOG_S at the FLM (R162). -/
def State.watchdogWritten (s : State) : State :=
  if s.settingN .watchdogS = 0 then s.stopWatchdog
  else if s.psq.state = .run then s.startWatchdog
  else s

/-- A write of LID_ACTION at the PSQ: NONE and NOTIFY cancel the lid timer (R144). -/
def State.lidActionWritten (s : State) : State :=
  if s.lidAutoStandby then s else s.setPsq { s.psq with lidDelay := none }

/-- A stored value handed to the blocks that read it (R182 and the chapters it names). BOOT_MIN_PCT acts through the
permission test at the close of the event (R135); the settings of the last row act from their readers' next use. -/
def State.handSetting (s : State) (i : SettingId) : State :=
  match i with
  | .reserveMw | .packWeightA | .packWeightB | .packImaxA | .packImaxB | .chargeLimit => s.trigger .setting
  | .efficiency | .powerCapMw | .legacyMw => s.contractSettingWritten
  | .derateStart | .derateEnd | .thermUrgent | .thermCrit | .sensorInclude => s.recompute
  | .fanHyst | .fanMinDuty | .quietCap | .quietOverrideTemp | .boostStep => s.computeDuty
  | .scanIntervalUs => s.restartPassTimer
  | .keyQUpper | .keyQLower => s.retestStall
  | .wakeMask => s.mxsDecide
  | .lidAction => s.lidActionWritten
  | .watchdogS => s.watchdogWritten
  | .adapterVMin | .adapterVMax | .packLowPct | .packCritPct
  | .sensorOffset0 | .sensorOffset1 | .sensorOffset2 | .sensorOffset3 | .fanStallRpm | .debouncePasses
  | .bootMinPct | .buttonHoldMs | .lidDelayS | .advisoryNotices => s

/-- A setting restored at soft reset, handed on as a write, but that the PSQ's running lid timer stands (R185). -/
def State.handRestored (s : State) (i : SettingId) : State :=
  if i = .lidAction then s else s.handSetting i

/-- The settings whose value a restore to the defaults changes, in identifier order. -/
def changedSettings (c : Settings) : List SettingId :=
  allSettings.filter (fun i => c.get i != Settings.defaults.get i)

/-- The changed settings of a restore handed to their blocks, one after the other (R185; DEDUCED, notes/assumptions/12.md). -/
def State.handAllRestored (s : State) : List SettingId → State
  | [] => s
  | i :: is => (s.handRestored i).handAllRestored is

end Sys2Proof.Machine
end

