-- ==== Sys2Proof/Machine/Records.lean ====
section
/-! DEFINITION. The byte layouts of notices, records and reports (sections 11.3 and 11.5). An absent field is sent as zeros
with its presence bit clear (R188). -/
namespace Sys2Proof.Machine

/-- A list filled with zero bytes to `n` bytes (R188). -/
def padTo (n : Nat) (bs : List Byte) : List Byte := bs ++ List.replicate (n - bs.length) 0

/-! ### Records -/

/-- The fault record, 10 bytes (section 11.3). -/
def faultRecordBytes (r : FaultRecord) : List Byte :=
  u32 r.seq ++ u8 (classCode (faultClass r.cause) + (if r.detail.isSome then 128 else 0)) ++ u8 (causeCode r.cause) ++
    u8 (sourceCode r.source) ++ leBytes 2 (r.detail.getD 0) ++ u8 (sysStateCode r.sysState)

/-- The contract block, 8 bytes (section 11.3). -/
def contractBytes : Option Contract → List Byte
  | none => List.replicate 8 0
  | some c =>
    u8 (c.offerIndex.getD 0 + (match c.source with
      | .negotiated => 0
      | .legacy => 128)) ++ u16 c.voltage ++ u16 c.current ++ u24 c.score

/-- The key record, 4 bytes (section 11.3). -/
def keyRecordBytes (e : Transition) : List Byte :=
  u8 e.code ++ u8 ((!e.press).toNat + 2 * originCode e.origin) ++ u16 e.pass

/-! ### Notices (section 11.3) -/

/-- KIND of a notice of the notice queue. -/
def noticeKind : Notice → Nat
  | .advisory _ => 0x42
  | .advisoryPending _ _ => 0x43
  | .state _ _ _ => 0x44
  | .wake _ _ => 0x45
  | .button _ _ => 0x46
  | .lid _ => 0x47
  | .adapter _ => 0x48
  | .pack _ _ => 0x49
  | .hotkey _ _ _ => 0x4A
  | .reset _ => 0x4B

/-- A notice's payload after the flag byte. -/
def noticeBody : Notice → List Byte
  | .advisory r => faultRecordBytes r
  | .advisoryPending count first => u8 count ++ u32 first
  | .state st cause lid => u8 (sysStateCode st) ++ u8 (stateCauseCode cause) ++ u8 lid.toNat
  | .wake k reasons => u8 (startKindCode k) ++ u8 reasons.length ++ padTo 6 (reasons.map (fun w => BitVec.ofNat 8 (wakeReasonCode w)))
  | .button release held => u8 (bitsNat [release, held.isSome]) ++ u16 (held.getD 0)
  | .lid closed => u8 closed.toNat
  | .adapter v =>
    u8 (adnStateCode v.state) ++
      u8 (bitsNat [v.record.isSome, (v.record.bind Contract.offerIndex).isSome, v.outstanding.isSome]) ++
      u24 v.pContract ++ contractBytes v.record ++ u8 v.offerCount ++ u8 (v.outstanding.getD 0)
  | .pack p v =>
    u8 (packCode p) ++ u8 (packStateCode v.state + 16 * haltCauseCode v.cause) ++
      u8 (bitsNat [v.seated, v.relCharge.isSome, v.low, v.critical, v.connected]) ++
      u8 (v.relCharge.getD 0) ++ u16 (v.voltage.getD 0)
  | .hotkey i k v => u8 i ++ u8 (actionKindCode k) ++ u8 v
  | .reset k => u8 (resetKindCode k)

/-- The frame of a notice of the notice queue; bit 0 of the flag byte carries the overrun flag (R176, R190). -/
def noticeFrame (overrun : Bool) (n : Notice) : List Byte :=
  frameBytes (BitVec.ofNat 8 (noticeKind n)) 0 (u8 overrun.toNat ++ noticeBody n)

/-- The frame of an URGENT notice; bit 1 of the flag byte carries the MULTIPLE marker (R190). -/
def urgentFrame (n : UrgentNotice) : List Byte :=
  frameBytes 0x41 0 (u8 (bitsNat [false, n.multiple]) ++ faultRecordBytes n.record)

/-- A KEYS frame (R190). -/
def keysFrame (recs : List Transition) : List Byte :=
  frameBytes 0x40 0 (u8 0 ++ recs.flatMap keyRecordBytes)

/-- The frame of a reply (R189). -/
def replyFrame (r : Reply) : List Byte := frameBytes r.kind r.tag r.payload

/-! ### Reports: the content after the status (section 11.5) -/

/-- The gauge's flag bits (section 11.3). -/
def gaugeFlags (g : Gauge) : Nat := bitsNat [g.full, g.overTemp, g.overVoltage, g.terminateDischarge]

/-- The accumulator in milliamp-hours, truncated toward zero (R38). -/
def accumMah (acc : Int) : Int := Int.tdiv acc 3600000

/-- PACK_REPORT (R42). -/
def State.packReportContent (s : State) (p : PackId) : List Byte :=
  let k := s.pack p
  let b := s.cbu.budget.packs.get p
  let g := k.gauge
  let age := k.lastPoll.map (fun t => min 65535 (s.time - t))
  u8 (packCode p) ++ u8 (packStateCode k.state) ++ u8 (haltCauseCode (if k.state = .halted then k.cause else none)) ++
    u8 (bitsNat [k.seated, g.isSome, age.isSome, k.low, k.critical, s.pbc.connected.get p]) ++
    u16 (match g with
      | some g => g.voltage
      | none => 0) ++
    s16 (match g with
      | some g => g.current
      | none => 0) ++
    s16 (match g with
      | some g => g.temperature
      | none => 0) ++
    u8 (match g with
      | some g => g.relCharge
      | none => 0) ++
    u16 (match g with
      | some g => g.ireq
      | none => 0) ++
    u16 (match g with
      | some g => g.reqVoltage
      | none => 0) ++
    u8 (match g with
      | some g => gaugeFlags g
      | none => 0) ++
    u8 k.failCount ++ s48 k.accum ++ s32 (accumMah k.accum) ++ u16 (age.getD 0) ++ u16 b.iSet ++ u16 b.iApp

/-- The 11 bytes of a pack in POWER_REPORT. -/
def packBudgetBytes (b : PackBudget) : List Byte :=
  (match b.inC with
   | some c => u16 c.vC ++ u16 c.ireq ++ u24 c.share
   | none => List.replicate 7 0) ++ u16 b.iSet ++ u16 b.iApp

/-- POWER_REPORT (R69, R191). -/
def State.powerReportContent (s : State) : List Byte :=
  let b := s.cbu.budget
  u8 (bitsNat [b.sample.isSome, b.overdraw.isSome, b.packs.a.inC.isSome, b.packs.b.inC.isSome, s.adn.record.isSome,
      (s.adn.record.bind Contract.offerIndex).isSome]) ++
    u8 (triggerCode b.trigger) ++
    u8 (modeCode b.mode + 8 * bitsNat [b.connected.a, b.connected.b, b.latch, b.packs.a.eligible, b.packs.b.eligible]) ++
    u8 (packStateCode (s.pack .a).state + 16 * packStateCode (s.pack .b).state) ++
    u16 (match b.sample with
      | some m => m.vBus
      | none => 0) ++
    u16 (match b.sample with
      | some m => m.iSys
      | none => 0) ++
    u24 b.pContract ++ u16 b.d ++ s24 (b.g.getD 0) ++ u24 b.h ++ u24 b.hd ++ u16 (b.overdraw.getD 0) ++
    packBudgetBytes b.packs.a ++ packBudgetBytes b.packs.b ++ contractBytes s.adn.record

/-- A sensor block of the SENSORS section, 4 bytes. -/
def sensorBytes (included : Bool) (k : SensorSlot) : List Byte :=
  let mark := match k.mark with
    | some c => sensorCauseCode c
    | none => 0
  u8 (sensorCondCode k.cond + 4 * bitsNat [included, k.value.isSome] + 16 * mark) ++ u8 (k.invalid + 4 * k.valid) ++
    s16 (k.value.getD 0)

/-- The aggregate's three bytes in the SENSORS section. -/
def aggregateBytes : Aggregate → List Byte
  | .valid v n => u8 (4 * n.val) ++ s16 v
  | .invalid n c => u8 (1 + 4 * n.val + 16 * sensorCauseCode c) ++ s16 0
  | .pending => u8 2 ++ s16 0

/-- The SENSORS section (R93). -/
def State.sensorsSection (s : State) : List Byte :=
  let t := s.thm
  sensorBytes (s.included 0) t.slots.s0 ++ sensorBytes (s.included 1) t.slots.s1 ++
    sensorBytes (s.included 2) t.slots.s2 ++ sensorBytes (s.included 3) t.slots.s3 ++
    aggregateBytes t.aggregate ++ u16 t.d ++ u8 (bitsNat [t.highArm, t.critArm, t.blind])

/-- A fan block of the FANS section, 7 bytes; an absent fan gives none of its fields. -/
def fanBytes (present : Bool) (f : FanSlot) : List Byte :=
  if present then
    u8 (bitsNat [true, f.mode == .manual, f.degraded, f.computed.isSome, f.rpm.isSome]) ++
      u8 f.manual ++ u8 (f.computed.getD 0) ++ u8 f.applied ++ u16 (f.rpm.getD 0) ++
      u8 (f.stall + 4 * f.grace + 16 * f.recovery)
  else List.replicate 7 0

/-- The FANS section (R93). -/
def State.fansSection (s : State) : List Byte :=
  fanBytes true s.fnc.fans.f0 ++ fanBytes (s.hasFan .f1) s.fnc.fans.f1 ++ u8 s.fnc.prevBase ++ u8 s.fnc.boost ++
    u8 (bitsNat [s.fnc.quiet, s.psq.lidConfirmed])

/-- A CURVE section (R93). -/
def curveSection (pts : List CurvePoint) : List Byte :=
  u8 pts.length ++ padTo 24 (pts.flatMap (fun p => s16 p.temp ++ u8 p.duty))

/-- A sequence of flags in bytes, eight to a byte, the first in bit 0 of the first byte. -/
def flagBytes (bs : List Bool) (n : Nat) : List Byte := leBytes n (bitsNat bs)

/-- KEY_STATE_READ (R115). -/
def State.keyStateContent (s : State) : List Byte :=
  let m := s.mxs
  flagBytes (m.keys.map KeyRec.debounced) 18 ++ flagBytes (m.lines.map LineRec.isolated) 3 ++
    u8 (mxsCondCode m.cond + 4 * m.enable.toNat) ++ u8 (m.queue.length + 128 * m.stalled.toNat) ++
    u8 m.pending.length ++ u8 (m.keys.filter KeyRec.resync).length ++ u16 m.passCount

/-- The straps byte of IDENTIFY (section 11.5). -/
def strapsByte (c : Straps) : Nat :=
  c.twoPacks.toNat + 2 * c.twoFans.toNat +
    4 * (match c.senseLines with
      | .n12 => 0
      | .n16 => 1
      | .n18 => 2) +
    16 * c.diodes.toNat +
    32 * (match c.linkRate with
      | .b460800 => 0
      | .b921600 => 1
      | .b3000000 => 2) +
    128 * c.autoOn.toNat

/-- IDENTIFY (R186). -/
def State.identifyContent (s : State) : List Byte :=
  u16 Config.partCode ++ u8 Config.designRevision ++ u8 (strapsByte s.sst.straps) ++ u8 (resetKindCode s.sst.resetKind) ++
    u8 s.sst.pinCount ++ u8 s.sst.softCount ++ u32 s.time ++ u8 Config.settingCount

/-- RETAINED_READ (R164). -/
def retainedContent (r : Retained) : List Byte :=
  u8 (bitsNat [r.protect, r.escalate, r.urgent, r.uCopy, r.mCopy, r.lastProtect.isSome]) ++
    u8 (match r.lastProtect with
      | some c => protectCauseCode c
      | none => 0) ++ u8 r.escalations

/-- The records FAULT_LOG_READ returns (R165). -/
def Flm.logFrom (f : Flm) (first : Nat) : List FaultRecord := (f.log.filter (fun r => decide (first ≤ r.seq))).take 4

/-- FAULT_LOG_READ (R165). -/
def faultLogContent (f : Flm) (first : Nat) : List Byte :=
  let recs := f.logFrom first
  u8 f.log.length ++ u32 f.counter ++ u8 recs.length ++ recs.flatMap faultRecordBytes

end Sys2Proof.Machine
end

