-- ==== Sys2Proof/Machine/Link.lean ====
section
/-! DEFINITION. The Link Controller's outbound side (sections 9.4 to 9.6): the arbiter and the start of a frame; and the close
of an event: what its changes bring about within it. -/
namespace Sys2Proof.Machine

/-- A source of the phase table holds an item (section 9.4). -/
def State.holds (s : State) : ArbSource → Bool
  | .reply => !s.lnk.replies.isEmpty
  | .key => !s.mxs.queue.isEmpty
  | .notice => !s.lnk.notices.isEmpty

/-- The phases in the order the arbiter looks at them, from the pointer on, wrapping from 15 to 0 (R174). -/
def phaseOrder (pointer : Nat) : List Nat := (List.range 16).map (fun k => (pointer + k) % 16)

/-- The source of a phase. -/
def Lnk.phase (l : Lnk) (i : Nat) : ArbSource := l.phases.getD i .reply

/-- The phase the arbiter uses: the first whose source holds an item (R174). -/
def State.pickPhase (s : State) : Option Nat := (phaseOrder s.lnk.pointer).find? (fun i => s.holds (s.lnk.phase i))

/-- The transmitter takes a frame. -/
def Lnk.send (l : Lnk) (bytes : List Byte) (carriesReset : Bool) : Lnk := { l with tx := some ⟨bytes, carriesReset⟩ }

/-- The reply is the OK to a PART_RESET (R178). -/
def Reply.isPartReset (r : Reply) : Bool := r.kind == 0x9A && r.payload == [0]

/-- The start of an URGENT notice's frame (R173). -/
def State.startUrgent (s : State) (n : UrgentNotice) : State :=
  s.setLnk ({ s.lnk with urgent := s.lnk.urgent.tail }.send (urgentFrame n) false)

/-- The start of a reply's frame (R172, R173). -/
def State.startReply (s : State) : State :=
  match s.lnk.replies with
  | [] => s
  | r :: rs => s.setLnk ({ s.lnk with replies := rs }.send (replyFrame r) r.isPartReset)

/-- The start of a KEYS frame: up to 8 records are taken, and the count may end the stall (R108, R109, R173). -/
def State.startKeys (s : State) : State :=
  let s1 := s.setLnk (s.lnk.send (keysFrame (s.mxs.queue.take 8)) false)
  let queue := s.mxs.queue.drop 8
  if s.mxs.stalled && decide (queue.length ≤ s.settingN .keyQLower) then
    (s1.setMxs { s.mxs with queue := queue, stalled := false }).offerPending
  else s1.setMxs { s.mxs with queue := queue }

/-- The start of a NOTICE frame: the overrun flag is carried and cleared; from a full queue the HKM is told (R173, R176). -/
def State.startNotice (s : State) : State :=
  match s.lnk.notices with
  | [] => s
  | n :: ns =>
    let s1 := s.setLnk ({ s.lnk with notices := ns, overrun := false }.send (noticeFrame s.lnk.overrun n) false)
    if Config.noticeCapacity ≤ s.lnk.notices.length ∧ ns.length < Config.noticeCapacity then s1.offerAction else s1

/-- The start of a frame of a phase-table source (R173). -/
def State.startSource (s : State) : ArbSource → State
  | .reply => s.startReply
  | .key => s.startKeys
  | .notice => s.startNotice

/-- A frame chosen through the phase table, the pointer moved past the phase used (R174). -/
def State.startPhase (s : State) (i : Nat) : State :=
  (s.setLnk { s.lnk with pointer := (i + 1) % 16 }).startSource (s.lnk.phase i)

/-- The arbiter may start a frame: the transmitter is IDLE and HRDY asserted (R174). -/
def Lnk.canStart (l : Lnk) : Bool := l.tx.isNone && l.hrdy

/-- The arbiter is consulted (R174). -/
def State.consult (s : State) : State :=
  if s.lnk.canStart then
    match s.lnk.urgent with
    | n :: _ => s.startUrgent n
    | [] =>
      match s.pickPhase with
      | some i => s.startPhase i
      | none => s
  else s

/-! ### The close of an event -/

/-- What power permission is computed from (R135). -/
def State.permissionInputs (s : State) : Nat × Int × (PackState × Nat × Bool) × (PackState × Nat × Bool) :=
  let v := fun p => ((s.pack p).state, (s.pack p).relCharge, (s.pack p).dischargeable)
  (s.adn.pContract, s.setting .bootMinPct, v .a, v .b)

/-- The permission test of a held start, in an event that has changed what it is computed from (R135). -/
def State.retestPermission (s before : State) : State :=
  if s.permissionInputs = before.permissionInputs then s else s.proceedHeld

/-- The resync, where its condition has come to hold since `before` (R110). -/
def State.resyncIfDue (s before : State) : State :=
  if s.mxs.resyncDue && !before.mxs.resyncDue then s.runResync else s

/-- An item has joined one of the four sources since `before`: the arbiter is consulted (R174). -/
def State.consultIfJoined (s before : State) : State :=
  if s.lnk.urgent = before.lnk.urgent ∧ s.lnk.replies = before.lnk.replies ∧ s.mxs.queue = before.mxs.queue ∧
      s.lnk.notices = before.lnk.notices then s
  else s.consult

/-- The poll timers at the close of an event that began in `before` (R28). -/
def State.syncPollTimers (s before : State) : State := (s.syncPollTimer before .a).syncPollTimer before .b

/-- The close of an event that began in `before`: a held start is tested again (R135), a resync that has come due is run (R110),
the arbiter is consulted (R174), what its frame's start sets free may make a resync due, and the poll timers follow the periods
that now apply (R28). The order among these is DEDUCED, notes/assumptions/4.md. -/
def State.close (s before : State) : State :=
  ((((s.retestPermission before).resyncIfDue before).consultIfJoined before).resyncIfDue before).syncPollTimers before

/-- What a command answers: no command of this part faults or is refused. -/
abbrev Answer : Type := Host.Outcome State Fault Refusal

/-- A command whose event is `f`, closed (section 0.4: an event is whole and indivisible;
DEDUCED, notes/assumptions/1.md). -/
def State.event (s : State) (f : State → State) : Answer := .next ((f s).close s)

end Sys2Proof.Machine
end

