-- ==== Sys2Proof/Machine/Requests.lean ====
section
/-! DEFINITION. The host requests (R171, R189): the tests every request passes, then each request's own checks and effect, up
to the close of the event. -/
namespace Sys2Proof.Machine

/-- The tests of R171 before a request reaches its block: room in the reply queue, else the request is lost; then the LEN of
its kind. -/
def State.takeRequest (s : State) (kind : Nat) (tag : Byte) (lenOk : Bool) (body : State → State) : State :=
  if Config.replyCapacity ≤ s.replyCount then s
  else if lenOk then body s
  else s.reply kind tag .badLength

/-- A request of one fixed LEN (R171, R189). -/
def State.takeFixed (s : State) (kind : Nat) (tag : Byte) (payload : List Byte) (len : Nat) (body : State → State) : State :=
  s.takeRequest kind tag (decide (payload.length = len)) body

/-- A request that names a pack: BAD_ARGUMENT for no pack, ABSENT for a slot the board lacks (section 2.12). -/
def State.onPack (s : State) (kind : Nat) (tag : Byte) (code : Nat) (body : PackId → State) : State :=
  match packOfCode code with
  | none => s.reply kind tag .badArgument
  | some p => if s.hasPack p then body p else s.reply kind tag .absent

/-! ### Identification and settings (chapter 10) -/

/-- IDENTIFY (R186). -/
def State.reqIdentify (s : State) (tag : Byte) (payload : List Byte) : State :=
  s.takeFixed 0x01 tag payload 0 fun s => s.reply 0x01 tag .ok s.identifyContent

/-- The content of a setting's reply: identifier and value (R189). -/
def settingContent (code : Nat) (v : Int) : List Byte := u16 code ++ s32 v

/-- SETTING_READ (R181). -/
def State.reqSettingRead (s : State) (tag : Byte) (payload : List Byte) : State :=
  s.takeFixed 0x02 tag payload 2 fun s =>
    let code := fieldAt payload 0 2
    match settingOfCode code with
    | none => s.reply 0x02 tag .unknownSetting
    | some i =>
      if s.settingAbsent i then s.reply 0x02 tag .absent (settingContent code 0)
      else s.reply 0x02 tag .ok (settingContent code (s.setting i))

/-- SETTING_WRITE (R182). -/
def State.reqSettingWrite (s : State) (tag : Byte) (payload : List Byte) : State :=
  s.takeFixed 0x03 tag payload 6 fun s =>
    let code := fieldAt payload 0 2
    let v := signedAt payload 2 4
    match settingOfCode code with
    | none => s.reply 0x03 tag .unknownSetting
    | some i =>
      if s.settingAbsent i then s.reply 0x03 tag .absent (settingContent code 0)
      else
        let stored := storedValue s.sst.settings i v
        ((s.store i stored).reply 0x03 tag (if stored = v then .ok else .clamped) (settingContent code stored)).handSetting i

/-! ### Power and packs (chapters 1 to 3) -/

/-- POWER_REPORT (R69). -/
def State.reqPowerReport (s : State) (tag : Byte) (payload : List Byte) : State :=
  s.takeFixed 0x04 tag payload 0 fun s => s.reply 0x04 tag .ok s.powerReportContent

/-- PACK_REPORT (R42). -/
def State.reqPackReport (s : State) (tag : Byte) (payload : List Byte) : State :=
  s.takeFixed 0x05 tag payload 1 fun s =>
    s.onPack 0x05 tag (byteAt payload 0) fun p => s.reply 0x05 tag .ok (s.packReportContent p)

/-- PACK_ACCUM_CLEAR (R46). -/
def State.reqPackAccumClear (s : State) (tag : Byte) (payload : List Byte) : State :=
  s.takeFixed 0x06 tag payload 1 fun s =>
    s.onPack 0x06 tag (byteAt payload 0) fun p =>
      (s.setPack p { s.pack p with accum := 0, lastPoll := none }).reply 0x06 tag .ok

/-- PACK_RAW_READ (R43). -/
def State.reqPackRawRead (s : State) (tag : Byte) (payload : List Byte) : State :=
  s.takeFixed rawReadKind tag payload 2 fun s =>
    let field := byteAt payload 1
    match packOfCode (byteAt payload 0) with
    | none => s.reply rawReadKind tag .badArgument
    | some p =>
      if 15 < field then s.reply rawReadKind tag .badArgument
      else if !s.hasPack p then s.reply rawReadKind tag .absent
      else if (s.pack p).state = .absent then s.reply rawReadKind tag .absent
      else if Config.rawReadCapacity ≤ s.inFlight.length then s.reply rawReadKind tag .busy
      else s.appendOp ⟨p, .rawRead field tag, false⟩

/-- CHARGE_CONTROL (R67). -/
def State.reqChargeControl (s : State) (tag : Byte) (payload : List Byte) : State :=
  s.takeFixed 0x08 tag payload 2 fun s =>
    match yesNoOfCode (byteAt payload 1) with
    | none => s.reply 0x08 tag .badArgument
    | some on =>
      s.onPack 0x08 tag (byteAt payload 0) fun p =>
        let s1 := s.reply 0x08 tag .ok
        if s.cbu.enable.get p = on then s1
        else (s1.setCbu { s1.cbu with enable := s1.cbu.enable.set p on }).trigger .control

/-- ADAPTER_RENEGOTIATE (R20). -/
def State.reqAdapterRenegotiate (s : State) (tag : Byte) (payload : List Byte) : State :=
  s.takeFixed 0x09 tag payload 0 fun s =>
    if s.adn.state = .detached then s.reply 0x09 tag .refusedState
    else (s.reply 0x09 tag .ok).renegotiate.notifyAdapter s

/-! ### Thermal and fans (chapter 4) -/

/-- The content of a THERMAL_REPORT section (R93). -/
def State.thermalSection (s : State) : Nat → Option (List Byte)
  | 0 => some s.sensorsSection
  | 1 => some s.fansSection
  | 2 => some (curveSection s.fnc.curveOpen)
  | 3 => some (curveSection s.fnc.curveClosed)
  | _ => none

/-- THERMAL_REPORT (R93). -/
def State.reqThermalReport (s : State) (tag : Byte) (payload : List Byte) : State :=
  s.takeFixed 0x0A tag payload 1 fun s =>
    match s.thermalSection (byteAt payload 0) with
    | none => s.reply 0x0A tag .badArgument
    | some content => s.reply 0x0A tag .ok (u8 (byteAt payload 0) ++ content)

/-- The points of a FAN_CURVE_WRITE payload from an offset on, `n` of them (R189). -/
def curvePoints (payload : List Byte) : Nat → Nat → List CurvePoint
  | _, 0 => []
  | off, n + 1 => ⟨signedAt payload off 2, byteAt payload (off + 2)⟩ :: curvePoints payload (off + 3) n

/-- Temperatures rise strictly and duties never fall (R84). -/
def curveRises : List CurvePoint → Bool
  | p :: q :: rest => decide (p.temp < q.temp) && decide (p.duty ≤ q.duty) && curveRises (q :: rest)
  | _ => true

/-- A table that R84 accepts. -/
def curveOk (pts : List CurvePoint) : Bool :=
  decide (2 ≤ pts.length) && decide (pts.length ≤ 8) &&
    pts.all (fun p => decide (-400 ≤ p.temp) && decide (p.temp ≤ 1500) && decide (p.duty ≤ 100)) && curveRises pts

/-- FAN_CURVE_WRITE (R84). -/
def State.reqFanCurveWrite (s : State) (tag : Byte) (payload : List Byte) : State :=
  let n := byteAt payload 1
  let table := byteAt payload 0
  let lenOk := decide (2 ≤ payload.length) && decide (payload.length = 2 + 3 * n)
  s.takeRequest 0x0B tag lenOk fun s =>
    let pts := curvePoints payload 2 n
    if 1 < table ∨ curveOk pts = false then s.reply 0x0B tag .badArgument
    else
      let closed := decide (table = 1)
      let s1 := (s.setFnc (if closed then { s.fnc with curveClosed := pts } else { s.fnc with curveOpen := pts })).reply 0x0B tag .ok
      if s.psq.lidConfirmed = closed then s1.computeDuty else s1

/-- FAN_CONTROL (R94). -/
def State.reqFanControl (s : State) (tag : Byte) (payload : List Byte) : State :=
  s.takeFixed 0x0C tag payload 3 fun s =>
    match fanOfCode (byteAt payload 0), fanModeOfCode (byteAt payload 1) with
    | some f, some mode =>
      if s.hasFan f then
        let duty := min 100 (byteAt payload 2)
        let s1 := s.setFnc { s.fnc with fans := s.fnc.fans.set f { s.fnc.fans.get f with mode := mode, manual := duty } }
        (s1.reply 0x0C tag (if 100 < byteAt payload 2 then .clamped else .ok) (u8 duty)).computeDuty
      else s.reply 0x0C tag .absent
    | _, _ => s.reply 0x0C tag .badArgument

/-! ### Keyboard and hotkeys (chapters 5 and 6) -/

/-- Every isolated line is taken out of isolation, in sense line order (R114 step 1). -/
def State.releaseLines (s : State) : List Nat → State
  | [] => s
  | l :: ls => (if (s.mxs.line l).isolated then s.restoreLine l 1 else s).releaseLines ls

/-- KEY_CONTROL (R114). -/
def State.reqKeyControl (s : State) (tag : Byte) (payload : List Byte) : State :=
  s.takeFixed 0x0D tag payload 1 fun s =>
    match yesNoOfCode (byteAt payload 0) with
    | none => s.reply 0x0D tag .badArgument
    | some on =>
      let s1 := (s.reply 0x0D tag .ok).releaseLines (List.range 18)
      (s1.setMxs { s1.mxs with enable := on }).mxsDecide

/-- KEY_STATE_READ (R115). -/
def State.reqKeyStateRead (s : State) (tag : Byte) (payload : List Byte) : State :=
  s.takeFixed 0x0E tag payload 0 fun s => s.reply 0x0E tag .ok s.keyStateContent

/-- The masks of section 6.1. -/
def maskOk (m : Nat) : Bool := [0x80, 0xC0, 0xE0, 0xF0, 0xF8, 0xFC, 0xFE, 0xFF].contains m

/-- Two blocks share a code (R121). -/
def blocksOverlap (x y : Window) : Bool :=
  let m := max x.size y.size
  x.base / m == y.base / m

/-- The written window conflicts with another enabled window (R121). -/
def Hkm.conflicts (h : Hkm) (n : Nat) (w : Window) : Bool :=
  w.enabled && (List.range 6).any (fun k =>
    k != n && (h.windows.getD k .initial).enabled && blocksOverlap w (h.windows.getD k .initial))

/-- HOTKEY_WINDOW_WRITE (R121). -/
def State.reqHotkeyWindowWrite (s : State) (tag : Byte) (payload : List Byte) : State :=
  s.takeFixed 0x0F tag payload 6 fun s =>
    let n := byteAt payload 0
    match yesNoOfCode (byteAt payload 1), yesNoOfCode (byteAt payload 5) with
    | some enabled, some consume =>
      let w : Window := ⟨enabled, byteAt payload 2, byteAt payload 3, byteAt payload 4, consume⟩
      if 5 < n ∨ maskOk w.mask = false ∨ 63 < w.translation / w.size * w.size + w.size - 1 then s.reply 0x0F tag .badArgument
      else if s.hkm.conflicts n w then s.reply 0x0F tag .conflict
      else ((s.setHkm { s.hkm with windows := s.hkm.windows.set n w }).reply 0x0F tag .ok).offerPending
    | _, _ => s.reply 0x0F tag .badArgument

/-- ACTION_WRITE (R123). -/
def State.reqActionWrite (s : State) (tag : Byte) (payload : List Byte) : State :=
  s.takeFixed 0x10 tag payload 3 fun s =>
    let n := byteAt payload 0
    match actionKindOfCode (byteAt payload 1) with
    | none => s.reply 0x10 tag .badArgument
    | some k =>
      if 63 < n then s.reply 0x10 tag .badArgument
      else
        let e : ActionEntry := ⟨k, if k = .hostNotice then byteAt payload 2 else 0⟩
        (s.setHkm { s.hkm with actions := s.hkm.actions.set n e }).reply 0x10 tag .ok

/-! ### Link and power state (chapters 7 and 9) -/

/-- The 16 sources of an ARBITER_WRITE payload, absent where an entry names none (R175). -/
def readPhases : List Byte → Option (List ArbSource)
  | [] => some []
  | b :: bs =>
    match arbSourceOfCode b.toNat, readPhases bs with
    | some x, some xs => some (x :: xs)
    | _, _ => none

/-- Every source appears in the table (R175). -/
def phasesComplete (t : List ArbSource) : Bool := t.contains .reply && t.contains .key && t.contains .notice

/-- ARBITER_WRITE (R175). -/
def State.reqArbiterWrite (s : State) (tag : Byte) (payload : List Byte) : State :=
  s.takeFixed 0x11 tag payload 16 fun s =>
    match readPhases payload with
    | none => s.reply 0x11 tag .badArgument
    | some t =>
      if phasesComplete t then (s.setLnk { s.lnk with phases := t }).reply 0x11 tag .ok
      else s.reply 0x11 tag .badArgument

/-- POWER_STATE_REQUEST (R145). -/
def State.reqPowerStateRequest (s : State) (tag : Byte) (payload : List Byte) : State :=
  s.takeFixed 0x12 tag payload 1 fun s =>
    match powerTargetOfCode (byteAt payload 0) with
    | none => s.reply 0x12 tag .badArgument
    | some t =>
      let ok := s.reply 0x12 tag .ok
      match s.psq.state, t with
      | .run, .standby => ok.enterSeqDown .standby .request none
      | .run, .off => ok.enterSeqDown .off .request none
      | .run, .restart => ok.hostRestart .request
      | .standby, .off => ok.enterSeqDown .off .request none
      | _, _ => s.reply 0x12 tag .refusedState

/-- WAKE_TIMER_SET (R139); a disarmed timer's remaining time is 0 (DESIGN CHOICE, notes/assumptions/16.md). -/
def State.reqWakeTimerSet (s : State) (tag : Byte) (payload : List Byte) : State :=
  s.takeFixed 0x13 tag payload 4 fun s =>
    let asked := fieldAt payload 0 4
    let stored := min 86400 asked
    let q := if asked = 0 then { s.psq with wakeArmed := false, wakeRemaining := 0 }
      else { s.psq with wakeArmed := true, wakeRemaining := stored * 1000 }
    (s.setPsq q).reply 0x13 tag (if 86400 < asked then .clamped else .ok) (u32 stored)

/-! ### Faults and the watchdog (chapter 8) -/

/-- WATCHDOG_KICK (R162). -/
def State.reqWatchdogKick (s : State) (tag : Byte) (payload : List Byte) : State :=
  s.takeFixed 0x14 tag payload 0 fun s =>
    (if s.psq.state = .run then s.startWatchdog else s).reply 0x14 tag .ok

/-- FAULT_LOG_READ (R165). -/
def State.reqFaultLogRead (s : State) (tag : Byte) (payload : List Byte) : State :=
  s.takeFixed 0x15 tag payload 4 fun s => s.reply 0x15 tag .ok (faultLogContent s.flm (fieldAt payload 0 4))

/-- FAULT_LOG_CLEAR (R165). -/
def State.reqFaultLogClear (s : State) (tag : Byte) (payload : List Byte) : State :=
  s.takeFixed 0x16 tag payload 0 fun s => (s.setFlm { s.flm with log := [] }).reply 0x16 tag .ok

/-- FAULT_DONE's effect at the FLM (R159). -/
def State.faultDone (s : State) : State :=
  if s.flm.u then
    let s1 := s.setFlm { s.flm with u := false, m := false, held := 0, firstHeld := none }
    if 0 < s.flm.held ∧ s.setting .advisoryNotices = 1 then
      s1.notice (.advisoryPending s.flm.held (s.flm.firstHeld.getD 0))
    else s1
  else s

/-- FAULT_DONE (R159). -/
def State.reqFaultDone (s : State) (tag : Byte) (payload : List Byte) : State :=
  s.takeFixed 0x17 tag payload 0 fun s => (s.reply 0x17 tag .ok).faultDone

/-- RETAINED_READ (R164). -/
def State.reqRetainedRead (s : State) (tag : Byte) (payload : List Byte) : State :=
  s.takeFixed 0x18 tag payload 0 fun s => s.reply 0x18 tag .ok (retainedContent s.flm.retained)

/-- RETAINED_CLEAR (R164). -/
def State.reqRetainedClear (s : State) (tag : Byte) (payload : List Byte) : State :=
  s.takeFixed 0x19 tag payload 0 fun s => (s.setFlm { s.flm with retained := .initial }).reply 0x19 tag .ok

/-- PART_RESET (R178). -/
def State.reqPartReset (s : State) (tag : Byte) (payload : List Byte) : State :=
  s.takeFixed 0x1A tag payload 0 fun s =>
    (s.setLnk { s.lnk with pendingReset := some (s.lnk.pendingReset.getD partResetMs) }).reply 0x1A tag .ok

/-- A request whose KIND names none; a KIND outside 0x01 to 0x3F is answered with reply kind 0x80 (R171, R189). -/
def State.reqUnknown (s : State) (kind : Nat) (tag : Byte) : State :=
  if Config.replyCapacity ≤ s.replyCount then s
  else if 1 ≤ kind ∧ kind ≤ 0x3F then s.reply kind tag .unknownKind
  else s.reply 0 tag .unknownKind

/-- A received request taken: handed to the block its KIND names (R171, R189). -/
def State.handleRequest (s : State) (kind tag : Byte) (payload : List Byte) : State :=
  match kind.toNat with
  | 0x01 => s.reqIdentify tag payload
  | 0x02 => s.reqSettingRead tag payload
  | 0x03 => s.reqSettingWrite tag payload
  | 0x04 => s.reqPowerReport tag payload
  | 0x05 => s.reqPackReport tag payload
  | 0x06 => s.reqPackAccumClear tag payload
  | 0x07 => s.reqPackRawRead tag payload
  | 0x08 => s.reqChargeControl tag payload
  | 0x09 => s.reqAdapterRenegotiate tag payload
  | 0x0A => s.reqThermalReport tag payload
  | 0x0B => s.reqFanCurveWrite tag payload
  | 0x0C => s.reqFanControl tag payload
  | 0x0D => s.reqKeyControl tag payload
  | 0x0E => s.reqKeyStateRead tag payload
  | 0x0F => s.reqHotkeyWindowWrite tag payload
  | 0x10 => s.reqActionWrite tag payload
  | 0x11 => s.reqArbiterWrite tag payload
  | 0x12 => s.reqPowerStateRequest tag payload
  | 0x13 => s.reqWakeTimerSet tag payload
  | 0x14 => s.reqWatchdogKick tag payload
  | 0x15 => s.reqFaultLogRead tag payload
  | 0x16 => s.reqFaultLogClear tag payload
  | 0x17 => s.reqFaultDone tag payload
  | 0x18 => s.reqRetainedRead tag payload
  | 0x19 => s.reqRetainedClear tag payload
  | 0x1A => s.reqPartReset tag payload
  | k => s.reqUnknown k tag

/-! ### The receive framer (section 9.2) -/

/-- The framer hands the FLM LINK_CHECK: KIND × 256 plus the reason (R170). -/
def State.linkCheck (s : State) (kind : Byte) (r : BadFrameReason) : State :=
  s.report .linkCheck .link (some (kind.toNat * 256 + (match r with
    | .checkFailed => 1
    | .lengthAbove56 => 2) : Nat))

/-- A byte taken outside HUNT brings the framer back to HUNT; like every such byte it starts the inter-byte timer afresh
(R169). -/
def State.toHunt (s : State) : State :=
  s.setLnk { s.lnk with framer := { Framer.initial with timer := some interByteMs } }

/-- The inter-byte timer expires, while it runs: in any phase but HUNT the frame is abandoned (R169). -/
def Framer.expire (f : Framer) : Framer :=
  if f.timer.isNone then f
  else if f.phase = .hunt then { f with timer := none }
  else .initial

/-- A byte taken outside HUNT: stored, added to the running sum, the inter-byte timer started afresh (R169). -/
def Framer.take (f : Framer) (b : Byte) : Framer := { f with sum := f.sum + b, timer := some interByteMs }

/-- A byte arrives on the receive line (R169, R170). SYNC, taken in HUNT, leaves the timer as it stands (DEDUCED,
notes/assumptions/13.md). -/
def State.receive (s : State) (b : Byte) : State :=
  let f := s.lnk.framer
  let put := fun f' : Framer => s.setLnk { s.lnk with framer := f' }
  match f.phase with
  | .hunt => if b = 0xD3 then put { Framer.initial with phase := .header, timer := f.timer } else s
  | .header =>
    let f1 := { f.take b with header := f.header ++ [b] }
    if f1.header.length < 3 then put f1
    else if Config.maxPayload < b.toNat then s.toHunt.linkCheck (f1.header.getD 0 0) .lengthAbove56
    else if b = 0 then put { f1 with phase := .check }
    else put { f1 with phase := .payload }
  | .payload =>
    let f1 := { f.take b with payload := f.payload ++ [b] }
    if f1.payload.length < byteAt f.header 2 then put f1 else put { f1 with phase := .check }
  | .check =>
    if f.sum + b = 0 then s.toHunt.handleRequest (f.header.getD 0 0) (f.header.getD 1 0) f.payload
    else s.toHunt.linkCheck (f.header.getD 0 0) .checkFailed

end Sys2Proof.Machine
end

