-- ==== Sys2Proof/Machine/Reset.lean ====
section
/-! DEFINITION. The three resets (R184, R185): each block's own reset rule, the CBU's reset evaluation, the settings restored at
soft reset, and the order of the reset event's notices (R179). -/
namespace Sys2Proof.Machine

/-! ### The link and the notices of a reset event (R179) -/

/-- The LNK after a reset, its RESET notice placed: a frame being sent goes on to its end, and its end takes no reset. -/
def Lnk.afterReset (l : Lnk) (kind : ResetKind) (hrdy : Bool) : Lnk :=
  { Lnk.initial with tx := l.tx.map (fun t => { t with carriesReset := false }), hrdy := hrdy, notices := [.reset kind] }

/-- The place of a notice in the order of a reset event: RESET, STATE, ADAPTER, PACK A, PACK B, then the others (R179). -/
def Notice.resetRank : Notice → Nat
  | .reset _ => 0
  | .state _ _ _ => 1
  | .adapter _ => 2
  | .pack .a _ => 3
  | .pack .b _ => 4
  | _ => 5

/-- The notices of a reset event in their order (R179). -/
def orderNotices (l : List Notice) : List Notice :=
  [0, 1, 2, 3, 4, 5].flatMap (fun r => l.filter (fun n => n.resetRank == r))

/-- The close of a reset event: as for any event, with the notices put in order before the arbiter is consulted (R174,
R179). -/
def State.closeReset (s before : State) : State :=
  let s1 := (s.retestPermission before).resyncIfDue before
  ((s1.setLnk { s1.lnk with notices := orderNotices s1.lnk.notices }).consult).syncPollTimers before

/-! ### Power-on reset and pin reset -/

/-- The output lines as these resets write them (R48, R71, R151). No rule orders these seven writes: the list's order is the
model's (DESIGN CHOICE, notes/assumptions/14.md). -/
def coldWrites : List OutputWrite :=
  [.charger .a 0, .charger .b 0, .pathSwitch .a false, .pathSwitch .b false, .railEnable .main false, .railEnable .core false,
   .hostReset true]

/-- The PSQ, its inputs read (R140, R151; DEDUCED in part, notes/assumptions/13.md). -/
def Psq.afterCold (p : Pins) : Psq :=
  { Psq.initial with
    mainGood := p.mainGood, coreGood := p.coreGood, buttonRaw := p.button, buttonConfirmed := p.button,
    lidRaw := p.lidClosed, lidConfirmed := p.lidClosed }

/-- The summary at a pin reset or a soft reset: the copies of U and M are taken (R164). -/
def Flm.copied (f : Flm) : Retained := { f.retained with uCopy := f.u, mCopy := f.m }

/-- Every block as its own rule leaves it at power-on reset (R2, R48, R71, R95, R96, R116, R128, R151, R166, R179, R180). All
state before it is lost (R184). -/
def State.afterPowerOn (s : State) (p : Pins) : State where
  time := 0
  pim := ⟨none, p.presence.adapter⟩
  adn := .initial
  pbc := .initial
  cbu := .initial
  thm := .initial
  fnc := .initial
  mxs := .initial
  hkm := .initial
  psq := .afterCold p
  flm := .initial
  lnk := Lnk.initial.afterReset .powerOn p.hrdy
  sst := ⟨.defaults, latchStraps p.straps, .powerOn, 0, 0⟩
  outs := coldWrites
  pending := s.pending

/-- Every block as its own rule leaves it at pin reset: as at power-on reset, but for the part's time, the retained summary,
the reset counts and a frame being sent (R164, R166, R179, R184, R186). -/
def State.afterPin (s : State) (p : Pins) : State :=
  { s.afterPowerOn p with
    time := s.time
    flm := { Flm.initial with retained := s.flm.copied }
    lnk := s.lnk.afterReset .pin p.hrdy
    sst := ⟨.defaults, latchStraps p.straps, .pin, min 255 (s.sst.pinCount + 1), s.sst.softCount⟩
    outs := s.outs ++ coldWrites }

/-- The level of a pack presence line. -/
def packLine (l : PresenceLevels) : PackId → Bool
  | .a => l.packA
  | .b => l.packB

/-- A counted slot whose line is high is handled as a rise (R48). -/
def State.seatPack (s : State) (l : PresenceLevels) (p : PackId) : State :=
  if s.hasPack p && packLine l p then s.packRises p else s

/-- The ADN takes its starting state from the presence level (R7). -/
def State.adnStarts (s : State) : State := if s.pim.presence then s.sendQuery else s

/-- What follows in the event once every block stands at its reset values: the ADN's start, the packs seated, the reset
evaluation, the notices, the MXS's decision (R7, R48, R71, R116, R151). QUERY is written before the read request of a seated
pack's poll, and both before the evaluation's writes, which no rule orders (DESIGN CHOICE, notes/assumptions/19.md). -/
def State.coldEvent (s : State) (p : Pins) : State :=
  let s1 := ((s.adnStarts.seatPack p.presence .a).seatPack p.presence .b).evaluateFor .reset
  let s2 := (s1.stateNotice .reset).notice (.adapter s1.adapterView)
  (s2.notifyPacks (s1.packDiffers s)).mxsDecide

/-- A power-on reset (R184), with the AUTO_ON start (R151). -/
def State.powerOnReset (s : State) (p : Pins) : State :=
  let base := s.afterPowerOn p
  let s1 := base.coldEvent p
  (if s1.sst.straps.autoOn then s1.startFromOff .autoOn else s1).closeReset base

/-- A pin reset (R184). -/
def State.pinReset (s : State) (p : Pins) : State :=
  let base := s.afterPin p
  (base.coldEvent p).closeReset base

/-! ### Soft reset -/

/-- A pack record at soft reset: CHARGING becomes READY (R49). -/
def Pack.softReset (k : Pack) : Pack := if k.state = .charging then { k with state := .ready } else k

/-- PBC (R49), before the presence lines are reconciled. -/
def Pbc.softReset (b : Pbc) : Pbc :=
  { b with packs := ⟨b.packs.a.softReset, b.packs.b.softReset⟩, ops := [], busTimer := none }

/-- The per-pack budget fields at soft reset (R72). -/
def PackBudget.softReset (b : PackBudget) : PackBudget := { b with inC := none, iSet := 0, iApp := 0 }

/-- CBU (R72), before the reset evaluation. -/
def Cbu.softReset (c : Cbu) : Cbu :=
  ⟨{ c.budget with overdraw := none, packs := ⟨c.budget.packs.a.softReset, c.budget.packs.b.softReset⟩ }, ⟨true, true⟩⟩

/-- A fan slot at soft reset (R96). -/
def FanSlot.softReset (f : FanSlot) : FanSlot :=
  { f with mode := .auto, manual := 0, stall := 0, recovery := 0, grace := 0 }

/-- FNC (R96). -/
def Fnc.softReset (f : Fnc) : Fnc :=
  { Fnc.initial with fans := ⟨f.fans.f0.softReset, f.fans.f1.softReset⟩ }

/-- The mark table at soft reset: every KEYLINE entry unmarked (R167). -/
def unmarkKeylines (marks : List (Option FaultCause)) : List (Option FaultCause) :=
  marks.take 8 ++ List.replicate 18 none ++ marks.drop 26

/-- FLM (R164, R167). -/
def Flm.softReset (f : Flm) : Flm :=
  { f with retained := f.copied, u := false, m := false, held := 0, firstHeld := none, watchdog := none,
           marks := unmarkKeylines f.marks }

/-- Every block as its own rule leaves it at soft reset (R2, R7, R49, R72, R95, R96, R116, R128, R152, R167, R179, R184,
R186). The two charger writes of 0, pack A's first, stand before the read requests of the reconciled packs' polls, which no
rule orders (DESIGN CHOICE, notes/assumptions/19.md); the disarmed wake timer's remaining time is 0, which no rule gives
(DESIGN CHOICE, notes/assumptions/16.md). -/
def State.afterSoft (s : State) (l : PresenceLevels) : State :=
  { s with
    pim := ⟨none, l.adapter⟩
    pbc := s.pbc.softReset
    cbu := s.cbu.softReset
    fnc := s.fnc.softReset
    mxs := .initial
    hkm := .initial
    psq := { s.psq with wakeArmed := false, wakeRemaining := 0 }
    flm := s.flm.softReset
    lnk := s.lnk.afterReset .soft s.lnk.hrdy
    sst := ⟨.defaults, s.sst.straps, .soft, s.sst.pinCount, min 255 (s.sst.softCount + 1)⟩
    outs := s.outs ++ [.charger .a 0, .charger .b 0] }

/-- A counted slot's presence line reconciled against its record (R49). -/
def State.reconcilePack (s : State) (l : PresenceLevels) (p : PackId) : State :=
  if s.hasPack p then
    if (s.pack p).state = .absent then (if packLine l p then s.packRises p else s)
    else if packLine l p then (s.pollDue p).restartPollTimer p
    else s.packFalls p
  else s

/-- The presence line disagrees with the ADN's state (R3). -/
def State.adapterEdge (s : State) : Bool := s.pim.presence == decide (s.adn.state = .detached)

/-- The ADN takes the edge that the reconciliation reports (R3, R8, R9). -/
def State.reconcileAdapter (s : State) : State :=
  if s.adapterEdge then (if s.pim.presence then s.sendQuery else s.setAdn .initial) else s

/-- A soft reset (R184, R185). A restored setting is handed on as a write after the FNC's own rule, so that a fan which the
reset's own computation takes to 0 and a restored SENSOR_INCLUDE raises again starts its grace (R89, R96; DEDUCED,
notes/assumptions/12.md). The ADN takes a presence edge before the PSQ, and the read request of a reconciled pack's poll is
written before QUERY (DESIGN CHOICE, notes/assumptions/19.md). -/
def State.softReset (s : State) (l : PresenceLevels) : State :=
  let base := s.afterSoft l
  let s1 := (((base.reconcilePack l .a).reconcilePack l .b).reconcileAdapter).evaluateSince s .reset
  let s2 := (s1.notifyAdapter s).computeDuty.mxsDecide
  let s3 := if base.adapterEdge then s2.wakeSource .adapter else s2
  (s3.handAllRestored (changedSettings s.sst.settings)).closeReset s

end Sys2Proof.Machine
end

