-- ==== Sys2Proof/Machine/AdapterEvents.lean ====
section
/-! DEFINITION. The meanings of the power input's and the adapter's commands (chapter 1) and of the overdraw timer
(section 3.8). -/
namespace Sys2Proof.Machine

/-- A power sample arrives (R1, R50). -/
def State.powerSample (s : State) (vBus iSys : Int) : State :=
  (s.setPim { s.pim with sample := some ⟨(clampInt 0 30000 vBus).toNat, (clampInt 0 15000 iSys).toNat⟩ }).trigger .sample

/-- A rise of the adapter presence line (R3, R8): the ADN takes it before the PSQ, which R3 leaves open (DESIGN CHOICE,
notes/assumptions/19.md). -/
def State.adapterRises (s : State) : State :=
  let s1 := s.setPim { s.pim with presence := true }
  let s2 := if s1.adn.state = .detached then s1.sendQuery else s1
  (s2.notifyAdapter s).wakeSource .adapter

/-- A fall of the adapter presence line (R3, R9): the ADN takes it before the PSQ, which R3 leaves open, so that the ADAPTER
wake's permission test reads the P_contract of 0 (DESIGN CHOICE, notes/assumptions/19.md). -/
def State.adapterFalls (s : State) : State :=
  let s1 := (s.setPim { s.pim with presence := false }).setAdn .initial
  ((s1.handContract s).notifyAdapter s).wakeSource .adapter

/-- The index is the outstanding SELECT's (R5). -/
def Adn.awaits (a : Adn) (st : AdnState) (index : Nat) : Bool :=
  decide (a.state = st) && decide (a.outstanding = some index)

/-- POWER_SAMPLE (R1). -/
def execPowerSample (vBus iSys : Int) (s : State) : Answer := s.event fun s => s.powerSample vBus iSys

/-- ADAPTER_PRESENCE_RISE; rises and falls alternate, so a rise of a high line is no edge (R3, R8). -/
def execAdapterPresenceRise (s : State) : Answer := s.event fun s => if s.pim.presence then s else s.adapterRises

/-- ADAPTER_PRESENCE_FALL; a fall of a low line is no edge (R3, R9). -/
def execAdapterPresenceFall (s : State) : Answer := s.event fun s => if s.pim.presence then s.adapterFalls else s

/-- ABILITY: discarded as R4 says, ignored in DETACHED (R5), else a new selection (R11). -/
def execAbility (checkOk : Bool) (offers : List Offer) (s : State) : Answer :=
  s.event fun s =>
    if abilityOk checkOk offers && decide (s.adn.state ≠ .detached) then (s.startSelection offers).notifyAdapter s else s

/-- ACCEPT (R4, R5, R14). -/
def execAccept (checkOk : Bool) (index : Nat) (s : State) : Answer :=
  s.event fun s =>
    if answerOk checkOk index && s.adn.awaits .selecting index then
      (s.setAdn { s.adn with state := .switching, timer := some readyMs }).notifyAdapter s
    else s

/-- REJECT (R4, R5, R15). -/
def execReject (checkOk : Bool) (index : Nat) (s : State) : Answer :=
  s.event fun s =>
    if answerOk checkOk index && s.adn.awaits .selecting index then s.selectFails.notifyAdapter s else s

/-- READY (R4, R5, R16). -/
def execReady (checkOk : Bool) (index : Nat) (s : State) : Answer :=
  s.event fun s =>
    if answerOk checkOk index && s.adn.awaits .switching index then (s.readyTaken index).notifyAdapter s else s

/-- ABILITY_TIMER_EXPIRY: the timer runs in QUERYING alone (R6, R10). -/
def execAbilityTimerExpiry (s : State) : Answer :=
  s.event fun s => if s.adn.state = .querying then s.abilityExpires.notifyAdapter s else s

/-- SELECT_TIMER_EXPIRY: the timer runs in SELECTING alone (R6, R15). -/
def execSelectTimerExpiry (s : State) : Answer :=
  s.event fun s => if s.adn.state = .selecting then s.selectFails.notifyAdapter s else s

/-- READY_TIMER_EXPIRY: the timer runs in SWITCHING alone (R6, R16). -/
def execReadyTimerExpiry (s : State) : Answer :=
  s.event fun s => if s.adn.state = .switching then s.selectionFails.notifyAdapter s else s

/-- OVERDRAW_TIMER_EXPIRY, while the timer runs (R64). -/
def execOverdrawTimerExpiry (s : State) : Answer :=
  s.event fun s =>
    if s.cbu.budget.overdraw.isSome then
      (s.setCbu { s.cbu with budget := { s.cbu.budget with overdraw := none } }).report .overdrawHold .system
        (some s.cbu.budget.deficit)
    else s

end Sys2Proof.Machine
end

