-- ==== Sys2Proof/Machine/KeyEvents.lean ====
section
/-! DEFINITION. The meanings of the keyboard's commands (chapters 5 and 6). -/
namespace Sys2Proof.Machine

/-- An activity pass of the MXS, with the KEY wake it may raise (R104). -/
def State.activity (s : State) (active : BitVec 18) : State :=
  let r := activityPass s.senseCount (s.settingN .debouncePasses) (s.settingN .scanIntervalUs) active s.mxs
  let s1 := s.setMxs r.1
  if r.2 then s1.wakeSource .key else s1

/-- SCAN_PASS: passes complete in SCANNING alone (R98, R99). -/
def execScanPass (snapshot : BitVec 144) (s : State) : Answer :=
  s.event fun s => if s.mxs.cond = .scanning then s.scanPass snapshot else s

/-- ACTIVITY_PASS: passes complete in ACTIVITY alone (R98, R104). -/
def execActivityPass (active : BitVec 18) (s : State) : Answer :=
  s.event fun s => if s.mxs.cond = .activity then s.activity active else s

/-- HAND_OFF: the head of the pending list is offered (R106). -/
def execHandOff (s : State) : Answer := s.event State.offerPending

/-- RESYNC: run where its condition holds (R110). -/
def execResync (s : State) : Answer := s.event fun s => if s.mxs.resyncDue then s.runResync else s

/-- ACTION_EXECUTE: the action at the head of the action queue is offered, once the notice queue has room (R124). -/
def execActionExecute (s : State) : Answer := s.event State.offerAction

end Sys2Proof.Machine
end

