-- ==== Sys2Proof/Machine/PackEvents.lean ====
section
/-! DEFINITION. The meanings of the pack bus's commands (chapter 2). -/
namespace Sys2Proof.Machine

/-- A rise of a pack's presence line; a slot that is strapped out is not read, and a rise of a seated slot is no edge (R23,
R24). -/
def State.packRise (s : State) (p : PackId) : State :=
  if s.hasPack p ∧ (s.pack p).state = .absent then (s.packRises p).evaluateSince s .pack else s

/-- A fall of a pack's presence line; a fall of an empty slot is no edge (R23, R25). -/
def State.packFall (s : State) (p : PackId) : State :=
  if s.hasPack p ∧ (s.pack p).state ≠ .absent then (s.packFalls p).evaluateSince s .pack else s

/-- The poll timer of a pack expires, while it runs (R28, R29). -/
def State.pollTimerExpires (s : State) (p : PackId) : State :=
  if (s.pack p).pollTimer.isSome then (s.restartPollTimer p).pollDue p else s

/-- PACK_PRESENCE_RISE (R24). -/
def execPackPresenceRise (p : PackId) (s : State) : Answer := s.event fun s => s.packRise p

/-- PACK_PRESENCE_FALL (R25). -/
def execPackPresenceFall (p : PackId) (s : State) : Answer := s.event fun s => s.packFall p

/-- POLL_TIMER_EXPIRY (R29). -/
def execPollTimerExpiry (p : PackId) (s : State) : Answer := s.event fun s => s.pollTimerExpires p

/-- BUS_OPERATION_START: the head of the list starts, where none is on the bus (R26, R27). -/
def execBusOperationStart (s : State) : Answer :=
  s.event fun s => if s.pbc.busTimer.isNone then s.startHead else s

/-- POLL_RESPONSE (R26, R30). -/
def execPollResponse (p : PackId) (current checkOk : Bool) (words : List Word16) (s : State) : Answer :=
  s.event fun s => s.pollResponse p current checkOk words

/-- POLL_TIMEOUT (R26, R31). -/
def execPollTimeout (p : PackId) (s : State) : Answer := s.event fun s => s.pollTimeout p

/-- RAW_READ_RESPONSE (R26, R44). -/
def execRawReadResponse (p : PackId) (current checkOk : Bool) (words : List Word16) (s : State) : Answer :=
  s.event fun s => s.rawReadResponse p current checkOk words

/-- RAW_READ_TIMEOUT (R44). -/
def execRawReadTimeout (p : PackId) (s : State) : Answer := s.event fun s => s.rawReadTimeout p

end Sys2Proof.Machine
end

