-- ==== Sys2Proof/Machine/PowerEvents.lean ====
section
/-! DEFINITION. The meanings of the power sequencer's commands (chapter 7): raw levels and stability timers, power-good edges,
the sequence timers, the hold, lid and wake timers, held starts. -/
namespace Sys2Proof.Machine

/-! ### Debounce (R140) -/

/-- A change of a raw level: recorded, the stability timer started afresh (R140). -/
def Psq.rawChange (q : Psq) (i : DebouncedInput) (level : Bool) : Psq :=
  match i with
  | .button => if q.buttonRaw = level then q else { q with buttonRaw := level, buttonTimer := some buttonStableMs }
  | .lid => if q.lidRaw = level then q else { q with lidRaw := level, lidTimer := some lidStableMs }

/-! ### The button (R141, R142) -/

/-- The press is recorded and the hold timer started (R141). -/
def State.recordPress (s : State) : State :=
  s.setPsq { s.psq with pressTime := some s.time, holdTimer := some (s.settingN .buttonHoldMs) }

/-- A confirmed press of the button (R141). -/
def State.pressConfirmed (s : State) : State :=
  match s.psq.state with
  | .off | .standby | .seqUp => s.recordPress.wakeSource .button
  | .run => s.recordPress.notice (.button false none)
  | .seqDown => s
  | .tripped => s.recordPress.releaseAttempt

/-- The held time of a release (R142). -/
def State.heldTime (s : State) : Option Nat := s.psq.pressTime.map (fun t => min 65535 (s.time - t))

/-- A confirmed release of the button (R142). -/
def State.releaseConfirmed (s : State) : State :=
  let s1 := s.setPsq { s.psq with holdTimer := none }
  if s.psq.state = .run then s1.notice (.button true s.heldTime) else s1

/-- The button's stability timer expires (R140). -/
def State.buttonStable (s : State) : State :=
  let s1 := s.setPsq { s.psq with buttonTimer := none }
  if s.psq.buttonRaw = s.psq.buttonConfirmed then s1
  else
    let s2 := s1.setPsq { s1.psq with buttonConfirmed := s.psq.buttonRaw }
    if s.psq.buttonRaw then s2.pressConfirmed else s2.releaseConfirmed

/-! ### The lid (R143) -/

/-- A confirmed lid change in RUN (R143, R144). -/
def State.lidInRun (s : State) (closed : Bool) : State :=
  let s1 := if s.lidActionNone then s else s.notice (.lid closed)
  if closed then (if s1.lidAutoStandby then s1.startLidTimer else s1)
  else s1.setPsq { s1.psq with lidDelay := none }

/-- A confirmed lid change, handed to the FNC and the MXS, then acted on by state (R143); the FNC takes it before the MXS
(DESIGN CHOICE, notes/assumptions/19.md). -/
def State.lidConfirmedChange (s : State) (closed : Bool) : State :=
  let s1 := (s.setPsq { s.psq with lidConfirmed := closed }).computeDuty.mxsDecide
  match s1.psq.state with
  | .run => s1.lidInRun closed
  | .off | .standby | .seqUp | .seqDown => if closed then s1 else s1.wakeSource .lid
  | .tripped => s1

/-- The lid's stability timer expires (R140). -/
def State.lidStable (s : State) : State :=
  let s1 := s.setPsq { s.psq with lidTimer := none }
  if s.psq.lidRaw = s.psq.lidConfirmed then s1 else s1.lidConfirmedChange s.psq.lidRaw

/-- The stability timer of an input expires, while it runs (R140). -/
def State.inputStable (s : State) : DebouncedInput → State
  | .button => if s.psq.buttonTimer.isSome then s.buttonStable else s
  | .lid => if s.psq.lidTimer.isSome then s.lidStable else s

/-! ### Power-good inputs (R130, R131) -/

def Psq.good (q : Psq) : Rail → Bool
  | .main => q.mainGood
  | .core => q.coreGood

def Psq.setGood (q : Psq) (r : Rail) (level : Bool) : Psq :=
  match r with
  | .main => { q with mainGood := level }
  | .core => { q with coreGood := level }

/-- A rise of a power-good input: it ends the step of SEQ_UP that waits for it (R130, R131). -/
def State.railGood (s : State) (r : Rail) : State :=
  let s1 := s.setPsq (s.psq.setGood r true)
  if s.psq.state = .seqUp then
    match r, s.psq.step with
    | .main, some .mainWait => s1.enterCoreWait
    | .core, some .coreWait => s1.enterSettle
    | _, _ => s1
  else s1

/-- A RAIL_FAULT (R130, R131). -/
def State.railFault (s : State) (r : Rail) (detail : Int) : State := s.report .railFault (.rail r) (some detail)

/-- A fall of a power-good input, by state and step (R131). -/
def State.railLost (s : State) (r : Rail) : State :=
  let s1 := s.setPsq (s.psq.setGood r false)
  match s.psq.state, r with
  | .run, _ => s1.railFault r 1
  | .standby, .main => s1.railFault .main 1
  | .standby, .core => s1
  | .seqUp, .main => if s.psq.step = some .mainWait then s1 else s1.railFault .main 1
  | .seqUp, .core => if s.psq.step = some .settle then s1.railFault .core 1 else s1
  | .seqDown, .main => if s.psq.downTarget = some .standby then s1.railFault .main 1 else s1
  | .seqDown, .core => s1.finishDown
  | .off, _ | .tripped, _ => s1

/-! ### Sequence timers (R130, R132) -/

/-- The power-good timer expires in MAIN_WAIT or CORE_WAIT of SEQ_UP (R130). -/
def State.railLate (s : State) : State :=
  if s.psq.state = .seqUp then
    match s.psq.step with
    | some .mainWait => s.railFault .main 0
    | some .coreWait => s.railFault .core 0
    | _ => s
  else s

/-- The settle timer expires (R130). -/
def State.settled (s : State) : State :=
  if s.psq.state = .seqUp ∧ s.psq.step = some .settle then s.enterRun else s

/-- The fall timer expires in SEQ_DOWN (R132). -/
def State.fallExpires (s : State) : State :=
  if s.psq.state = .seqDown then (s.report .railSlow (.rail .core) none).finishDown else s

/-! ### Hold, lid and wake timers (R139, R142, R144) -/

/-- The hold timer expires, while it runs (R142). -/
def State.holdExpires (s : State) : State :=
  if s.psq.holdTimer.isSome then
    let s1 := s.setPsq { s.psq with holdTimer := none }
    match s.psq.state with
    | .seqUp | .run | .standby => (s1.report .forcedOff .system none).enterSeqDown .off .forcedOff none
    | .off | .seqDown | .tripped => s1
  else s

/-- The lid timer expires in RUN, while it runs (R144). -/
def State.lidDelayExpires (s : State) : State :=
  if s.psq.lidDelay.isSome ∧ s.psq.state = .run then s.enterSeqDown .standby .lidTimer none else s

/-- The wake timer reaches 0 in STANDBY, while it is armed (R139). -/
def State.wakeTimerExpires (s : State) : State :=
  if s.psq.wakeArmed ∧ s.psq.state = .standby then
    (s.setPsq { s.psq with wakeArmed := false, wakeRemaining := 0 }).wakeSource .timer
  else s

/-! ### Held starts (R135) -/

/-- The permission wait timer expires, while a start is held (R135). -/
def State.permissionExpires (s : State) : State :=
  if s.psq.held.isSome then
    let s1 := (s.report .bootDenied .system (some 0)).emptyReasons
    s1.setPsq { s1.psq with held := none, startKind := none }
  else s

/-! ### The meanings -/

/-- RAW_LEVEL_CHANGE (R140). -/
def execRawLevelChange (i : DebouncedInput) (level : Bool) (s : State) : Answer :=
  s.event fun s => s.setPsq (s.psq.rawChange i level)

/-- STABILITY_TIMER_EXPIRY (R140). -/
def execStabilityTimerExpiry (i : DebouncedInput) (s : State) : Answer := s.event fun s => s.inputStable i

/-- HELD_START_PROCEED: permission is tested; where it holds, the held start enters SEQ_UP (R135). -/
def execHeldStartProceed (s : State) : Answer := s.event State.proceedHeld

/-- PERMISSION_WAIT_TIMER_EXPIRY (R135). -/
def execPermissionWaitTimerExpiry (s : State) : Answer := s.event State.permissionExpires

/-- POWER_GOOD_RISE; a rise of an input that reads high is no edge (R130, R131). -/
def execPowerGoodRise (r : Rail) (s : State) : Answer :=
  s.event fun s => if s.psq.good r then s else s.railGood r

/-- POWER_GOOD_FALL; a fall of an input that reads low is no edge (R131, R132). -/
def execPowerGoodFall (r : Rail) (s : State) : Answer :=
  s.event fun s => if s.psq.good r then s.railLost r else s

/-- POWER_GOOD_TIMER_EXPIRY (R130). -/
def execPowerGoodTimerExpiry (s : State) : Answer := s.event State.railLate

/-- SETTLE_TIMER_EXPIRY (R130). -/
def execSettleTimerExpiry (s : State) : Answer := s.event State.settled

/-- FALL_TIMER_EXPIRY (R132). -/
def execFallTimerExpiry (s : State) : Answer := s.event State.fallExpires

/-- HOLD_TIMER_EXPIRY (R142). -/
def execHoldTimerExpiry (s : State) : Answer := s.event State.holdExpires

/-- LID_TIMER_EXPIRY (R144). -/
def execLidTimerExpiry (s : State) : Answer := s.event State.lidDelayExpires

/-- WAKE_TIMER_EXPIRY (R139). -/
def execWakeTimerExpiry (s : State) : Answer := s.event State.wakeTimerExpires

end Sys2Proof.Machine
end

