-- ==== Sys2Proof/Machine/RequestEvents.lean ====
section
/-! DEFINITION. The meanings of the host's requests (R171, R189), of the receive line's events (section 9.2) and of the host
watchdog's expiry (R163). A request's arrival is the event of its CHECK byte, its frame already received. -/
namespace Sys2Proof.Machine

/-- ADAPTER_RENEGOTIATE (R20). -/
def execAdapterRenegotiate (tag : Byte) (payload : List Byte) (s : State) : Answer := s.event fun s => s.reqAdapterRenegotiate tag payload

/-- PACK_REPORT (R42). -/
def execPackReport (tag : Byte) (payload : List Byte) (s : State) : Answer := s.event fun s => s.reqPackReport tag payload

/-- PACK_RAW_READ (R43). -/
def execPackRawRead (tag : Byte) (payload : List Byte) (s : State) : Answer := s.event fun s => s.reqPackRawRead tag payload

/-- PACK_ACCUM_CLEAR (R46). -/
def execPackAccumClear (tag : Byte) (payload : List Byte) (s : State) : Answer := s.event fun s => s.reqPackAccumClear tag payload

/-- CHARGE_CONTROL (R67). -/
def execChargeControl (tag : Byte) (payload : List Byte) (s : State) : Answer := s.event fun s => s.reqChargeControl tag payload

/-- POWER_REPORT (R69). -/
def execPowerReport (tag : Byte) (payload : List Byte) (s : State) : Answer := s.event fun s => s.reqPowerReport tag payload

/-- FAN_CURVE_WRITE (R84). -/
def execFanCurveWrite (tag : Byte) (payload : List Byte) (s : State) : Answer := s.event fun s => s.reqFanCurveWrite tag payload

/-- FAN_CONTROL (R94). -/
def execFanControl (tag : Byte) (payload : List Byte) (s : State) : Answer := s.event fun s => s.reqFanControl tag payload

/-- THERMAL_REPORT (R93). -/
def execThermalReport (tag : Byte) (payload : List Byte) (s : State) : Answer := s.event fun s => s.reqThermalReport tag payload

/-- KEY_CONTROL (R114). -/
def execKeyControl (tag : Byte) (payload : List Byte) (s : State) : Answer := s.event fun s => s.reqKeyControl tag payload

/-- KEY_STATE_READ (R115). -/
def execKeyStateRead (tag : Byte) (payload : List Byte) (s : State) : Answer := s.event fun s => s.reqKeyStateRead tag payload

/-- HOTKEY_WINDOW_WRITE (R121). -/
def execHotkeyWindowWrite (tag : Byte) (payload : List Byte) (s : State) : Answer := s.event fun s => s.reqHotkeyWindowWrite tag payload

/-- ACTION_WRITE (R123). -/
def execActionWrite (tag : Byte) (payload : List Byte) (s : State) : Answer := s.event fun s => s.reqActionWrite tag payload

/-- WAKE_TIMER_SET (R139). -/
def execWakeTimerSet (tag : Byte) (payload : List Byte) (s : State) : Answer := s.event fun s => s.reqWakeTimerSet tag payload

/-- POWER_STATE_REQUEST (R145). -/
def execPowerStateRequest (tag : Byte) (payload : List Byte) (s : State) : Answer := s.event fun s => s.reqPowerStateRequest tag payload

/-- WATCHDOG_KICK (R162). -/
def execWatchdogKick (tag : Byte) (payload : List Byte) (s : State) : Answer := s.event fun s => s.reqWatchdogKick tag payload

/-- FAULT_DONE (R159). -/
def execFaultDone (tag : Byte) (payload : List Byte) (s : State) : Answer := s.event fun s => s.reqFaultDone tag payload

/-- FAULT_LOG_READ (R165). -/
def execFaultLogRead (tag : Byte) (payload : List Byte) (s : State) : Answer := s.event fun s => s.reqFaultLogRead tag payload

/-- FAULT_LOG_CLEAR (R165). -/
def execFaultLogClear (tag : Byte) (payload : List Byte) (s : State) : Answer := s.event fun s => s.reqFaultLogClear tag payload

/-- RETAINED_READ (R164). -/
def execRetainedRead (tag : Byte) (payload : List Byte) (s : State) : Answer := s.event fun s => s.reqRetainedRead tag payload

/-- RETAINED_CLEAR (R164). -/
def execRetainedClear (tag : Byte) (payload : List Byte) (s : State) : Answer := s.event fun s => s.reqRetainedClear tag payload

/-- ARBITER_WRITE (R175). -/
def execArbiterWrite (tag : Byte) (payload : List Byte) (s : State) : Answer := s.event fun s => s.reqArbiterWrite tag payload

/-- PART_RESET (R178). -/
def execPartReset (tag : Byte) (payload : List Byte) (s : State) : Answer := s.event fun s => s.reqPartReset tag payload

/-- SETTING_READ (R181). -/
def execSettingRead (tag : Byte) (payload : List Byte) (s : State) : Answer := s.event fun s => s.reqSettingRead tag payload

/-- SETTING_WRITE (R182). -/
def execSettingWrite (tag : Byte) (payload : List Byte) (s : State) : Answer := s.event fun s => s.reqSettingWrite tag payload

/-- IDENTIFY (R186). -/
def execIdentify (tag : Byte) (payload : List Byte) (s : State) : Answer := s.event fun s => s.reqIdentify tag payload

/-- UNKNOWN_KIND: a received request whose KIND names none; a KIND that names a request is that request (R171).
DESIGN CHOICE, notes/assumptions/5.md. -/
def execUnknownKind (kind tag : Byte) (payload : List Byte) (s : State) : Answer :=
  s.event fun s => s.handleRequest kind tag payload

/-- BAD_FRAME: a frame discarded at its CHECK byte or at its LEN byte (R169, R170). -/
def execBadFrame (kind : Byte) (reason : BadFrameReason) (s : State) : Answer :=
  s.event fun s => s.toHunt.linkCheck kind reason

/-- INTER_BYTE_TIMER_EXPIRY, while the timer runs: in any phase but HUNT the frame is abandoned (R169). -/
def execInterByteTimerExpiry (s : State) : Answer :=
  s.event fun s => s.setLnk { s.lnk with framer := s.lnk.framer.expire }

/-- RECEIVE_BYTE (R169). -/
def execReceiveByte (b : Byte) (s : State) : Answer := s.event fun s => s.receive b

/-- The watchdog expires, while it runs (R163). -/
def State.watchdogExpires (s : State) : State :=
  if s.flm.watchdog.isSome then
    if s.flm.u then s.escalate
    else (s.report .watchdogFirst .system (some (s.setting .watchdogS))).startWatchdog
  else s

/-- WATCHDOG_EXPIRY (R163). -/
def execWatchdogExpiry (s : State) : Answer := s.event State.watchdogExpires

end Sys2Proof.Machine
end

