-- ==== Sys2Proof/Machine/ResetEvents.lean ====
section
/-! DEFINITION. The meanings of the reset commands and of the events of the outbound link: resets, the reset timer, HRDY, the
start and the end of a frame (R168, R174, R178, R184). -/
namespace Sys2Proof.Machine

/-- POWER_ON_RESET (R184). -/
def execPowerOnReset (pins : Pins) (s : State) : Answer := .next (s.powerOnReset pins)

/-- PIN_RESET (R184). -/
def execPinReset (pins : Pins) (s : State) : Answer := .next (s.pinReset pins)

/-- RESET_TIMER_EXPIRY: a pending soft reset is taken; with none pending the timer does not run (R178). -/
def execResetTimerExpiry (lines : PresenceLevels) (s : State) : Answer :=
  if s.lnk.pendingReset.isSome then .next (s.softReset lines) else .next s

/-- HRDY_ASSERT: the arbiter is consulted (R168, R174). -/
def execHrdyAssert (s : State) : Answer :=
  s.event fun s => (s.setLnk { s.lnk with hrdy := true }).consult

/-- HRDY_DEASSERT: a frame being sent finishes, no new one starts (R168). -/
def execHrdyDeassert (s : State) : Answer :=
  s.event fun s => s.setLnk { s.lnk with hrdy := false }

/-- FRAME_START: the arbiter starts a frame where the transmitter is IDLE, HRDY is asserted and a source holds an item
(R173, R174). -/
def execFrameStart (s : State) : Answer := s.event State.consult

/-- FRAME_END: the transmitter returns to IDLE; a pending soft reset is taken at the end of the frame of a PART_RESET reply,
and otherwise the arbiter is consulted (R168, R174, R178). With the transmitter IDLE no frame ends. -/
def execFrameEnd (lines : PresenceLevels) (s : State) : Answer :=
  match s.lnk.tx with
  | none => .next s
  | some t =>
    let idle := s.setLnk { s.lnk with tx := none }
    if t.carriesReset && s.lnk.pendingReset.isSome then .next (idle.softReset lines)
    else .next (idle.consult.close s)

end Sys2Proof.Machine
end

