-- ==== Sys2Proof/Machine/ThermalEvents.lean ====
section
/-! DEFINITION. The meanings of the sensors' and the fans' arrivals (chapter 4). -/
namespace Sys2Proof.Machine

/-- SENSOR_READING (R73). -/
def execSensorReading (n : Fin 4) (status : SensorStatus) (value : Int) (s : State) : Answer :=
  s.event fun s => s.sensorReading n status value

/-- TACH_REPORT (R89). -/
def execTachReport (f : FanId) (rpm : Nat) (s : State) : Answer := s.event fun s => s.tachReport f rpm

end Sys2Proof.Machine
end

