-- ==== Sys2Proof/Machine/Dispatch.lean ====
section
/-! DEFINITION. The meaning of every command: one arm per constructor of `Instr`. -/
namespace Sys2Proof.Machine

def exec (i : Instr) (s : State) : Host.Outcome State Fault Refusal :=
  match i with
  | .powerOnReset pins => Sys2Proof.Machine.execPowerOnReset pins s
  | .pinReset pins => Sys2Proof.Machine.execPinReset pins s
  | .resetTimerExpiry lines => Sys2Proof.Machine.execResetTimerExpiry lines s
  | .powerSample vBus iSys => Sys2Proof.Machine.execPowerSample vBus iSys s
  | .adapterPresenceRise => Sys2Proof.Machine.execAdapterPresenceRise s
  | .adapterPresenceFall => Sys2Proof.Machine.execAdapterPresenceFall s
  | .ability checkOk offers => Sys2Proof.Machine.execAbility checkOk offers s
  | .accept checkOk index => Sys2Proof.Machine.execAccept checkOk index s
  | .reject checkOk index => Sys2Proof.Machine.execReject checkOk index s
  | .ready checkOk index => Sys2Proof.Machine.execReady checkOk index s
  | .abilityTimerExpiry => Sys2Proof.Machine.execAbilityTimerExpiry s
  | .selectTimerExpiry => Sys2Proof.Machine.execSelectTimerExpiry s
  | .readyTimerExpiry => Sys2Proof.Machine.execReadyTimerExpiry s
  | .adapterRenegotiate tag payload => Sys2Proof.Machine.execAdapterRenegotiate tag payload s
  | .packPresenceRise p => Sys2Proof.Machine.execPackPresenceRise p s
  | .packPresenceFall p => Sys2Proof.Machine.execPackPresenceFall p s
  | .pollTimerExpiry p => Sys2Proof.Machine.execPollTimerExpiry p s
  | .busOperationStart => Sys2Proof.Machine.execBusOperationStart s
  | .pollResponse p current checkOk words => Sys2Proof.Machine.execPollResponse p current checkOk words s
  | .pollTimeout p => Sys2Proof.Machine.execPollTimeout p s
  | .rawReadResponse p current checkOk words => Sys2Proof.Machine.execRawReadResponse p current checkOk words s
  | .rawReadTimeout p => Sys2Proof.Machine.execRawReadTimeout p s
  | .packReport tag payload => Sys2Proof.Machine.execPackReport tag payload s
  | .packRawRead tag payload => Sys2Proof.Machine.execPackRawRead tag payload s
  | .packAccumClear tag payload => Sys2Proof.Machine.execPackAccumClear tag payload s
  | .overdrawTimerExpiry => Sys2Proof.Machine.execOverdrawTimerExpiry s
  | .chargeControl tag payload => Sys2Proof.Machine.execChargeControl tag payload s
  | .powerReport tag payload => Sys2Proof.Machine.execPowerReport tag payload s
  | .sensorReading n status value => Sys2Proof.Machine.execSensorReading n status value s
  | .tachReport f rpm => Sys2Proof.Machine.execTachReport f rpm s
  | .fanCurveWrite tag payload => Sys2Proof.Machine.execFanCurveWrite tag payload s
  | .fanControl tag payload => Sys2Proof.Machine.execFanControl tag payload s
  | .thermalReport tag payload => Sys2Proof.Machine.execThermalReport tag payload s
  | .scanPass snapshot => Sys2Proof.Machine.execScanPass snapshot s
  | .activityPass active => Sys2Proof.Machine.execActivityPass active s
  | .handOff => Sys2Proof.Machine.execHandOff s
  | .resync => Sys2Proof.Machine.execResync s
  | .keyControl tag payload => Sys2Proof.Machine.execKeyControl tag payload s
  | .keyStateRead tag payload => Sys2Proof.Machine.execKeyStateRead tag payload s
  | .hotkeyWindowWrite tag payload => Sys2Proof.Machine.execHotkeyWindowWrite tag payload s
  | .actionWrite tag payload => Sys2Proof.Machine.execActionWrite tag payload s
  | .actionExecute => Sys2Proof.Machine.execActionExecute s
  | .rawLevelChange n level => Sys2Proof.Machine.execRawLevelChange n level s
  | .stabilityTimerExpiry n => Sys2Proof.Machine.execStabilityTimerExpiry n s
  | .heldStartProceed => Sys2Proof.Machine.execHeldStartProceed s
  | .permissionWaitTimerExpiry => Sys2Proof.Machine.execPermissionWaitTimerExpiry s
  | .powerGoodRise r => Sys2Proof.Machine.execPowerGoodRise r s
  | .powerGoodFall r => Sys2Proof.Machine.execPowerGoodFall r s
  | .powerGoodTimerExpiry => Sys2Proof.Machine.execPowerGoodTimerExpiry s
  | .settleTimerExpiry => Sys2Proof.Machine.execSettleTimerExpiry s
  | .fallTimerExpiry => Sys2Proof.Machine.execFallTimerExpiry s
  | .holdTimerExpiry => Sys2Proof.Machine.execHoldTimerExpiry s
  | .lidTimerExpiry => Sys2Proof.Machine.execLidTimerExpiry s
  | .wakeTimerExpiry => Sys2Proof.Machine.execWakeTimerExpiry s
  | .wakeTimerSet tag payload => Sys2Proof.Machine.execWakeTimerSet tag payload s
  | .powerStateRequest tag payload => Sys2Proof.Machine.execPowerStateRequest tag payload s
  | .watchdogExpiry => Sys2Proof.Machine.execWatchdogExpiry s
  | .watchdogKick tag payload => Sys2Proof.Machine.execWatchdogKick tag payload s
  | .faultDone tag payload => Sys2Proof.Machine.execFaultDone tag payload s
  | .faultLogRead tag payload => Sys2Proof.Machine.execFaultLogRead tag payload s
  | .faultLogClear tag payload => Sys2Proof.Machine.execFaultLogClear tag payload s
  | .retainedRead tag payload => Sys2Proof.Machine.execRetainedRead tag payload s
  | .retainedClear tag payload => Sys2Proof.Machine.execRetainedClear tag payload s
  | .badFrame kind reason => Sys2Proof.Machine.execBadFrame kind reason s
  | .interByteTimerExpiry => Sys2Proof.Machine.execInterByteTimerExpiry s
  | .unknownKind kind tag payload => Sys2Proof.Machine.execUnknownKind kind tag payload s
  | .hrdyAssert => Sys2Proof.Machine.execHrdyAssert s
  | .hrdyDeassert => Sys2Proof.Machine.execHrdyDeassert s
  | .frameStart => Sys2Proof.Machine.execFrameStart s
  | .frameEnd lines => Sys2Proof.Machine.execFrameEnd lines s
  | .arbiterWrite tag payload => Sys2Proof.Machine.execArbiterWrite tag payload s
  | .partReset tag payload => Sys2Proof.Machine.execPartReset tag payload s
  | .settingRead tag payload => Sys2Proof.Machine.execSettingRead tag payload s
  | .settingWrite tag payload => Sys2Proof.Machine.execSettingWrite tag payload s
  | .identify tag payload => Sys2Proof.Machine.execIdentify tag payload s
  | .receiveByte b => Sys2Proof.Machine.execReceiveByte b s

end Sys2Proof.Machine
end

