-- ==== Sys2Proof/Safety.lean ====
section
/-! DEFINITION. What counts as a safe part, in the terms the claims use: the invariants of its blocks, and the form of a host
request. No command of this part stops, so a safe run is one that keeps these. -/
namespace Sys2Proof.Machine

/-! ### Queues and lists (R105, R120, R138, R155, R157, R176, R177) -/

/-- Every list holds at most its stated capacity, and M is never set while U is clear. -/
structure State.ListsBounded (s : State) : Prop where
  pending : s.mxs.pending.length ≤ 16
  actions : s.hkm.queue.length ≤ 4
  log     : s.flm.log.length ≤ 16
  reasons : s.psq.wakeList.length ≤ 6
  notices : s.lnk.notices.length ≤ 16
  urgent  : s.lnk.urgent.length ≤ 4
  flags   : s.flm.m = true → s.flm.u = true

/-- The polls of a pack in the bus operation list. -/
def State.pollsOf (s : State) (p : PackId) : List BusOp := s.pbc.ops.filter (fun o => o.pack == p && !o.isRaw)

/-- The bus operation list holds at most one poll a pack and two raw reads, and the reply queue's count is at most 8
(R27, R43, section 9.3). -/
structure State.RepliesBounded (s : State) : Prop where
  polls   : ∀ p, (s.pollsOf p).length ≤ 1
  raw     : s.inFlight.length ≤ 2
  replies : s.replyCount ≤ 8

/-! ### Settings and windows (R117, R121, R182, R183) -/

/-- Every setting lies in its range, every pair keeps its distance, and the wake mask holds BUTTON. -/
structure Settings.Valid (c : Settings) : Prop where
  range   : ∀ i, (settingRange i).1 ≤ c.get i ∧ c.get i ≤ (settingRange i).2
  keyQ    : c.keyQLower + 1 ≤ c.keyQUpper
  derate  : c.derateStart + 10 ≤ c.derateEnd
  therm   : c.thermUrgent + 20 ≤ c.thermCrit
  adapter : c.adapterVMin ≤ c.adapterVMax
  button  : c.wakeMask.toNat.testBit 0 = true

/-- The key queue: stalled from KEY_Q_UPPER on, and so never past it (R109). -/
structure State.KeyQueueGuarded (s : State) : Prop where
  settings : s.sst.settings.Valid
  stall    : s.mxs.stalled = false → s.mxs.queue.length < s.settingN .keyQUpper
  room     : s.mxs.queue.length ≤ 32

/-- No two enabled windows match one code, each window's mask is one of the eight, and each action index of its block lies in
the action table (R117, R121). -/
structure Hkm.WindowsApart (h : Hkm) : Prop where
  count : h.windows.length = 6
  masks : ∀ w ∈ h.windows, maskOk w.mask = true
  index : ∀ w ∈ h.windows, w.translation / w.size * w.size + w.size - 1 ≤ 63
  apart : ∀ m n code, m < n → n < 6 → ¬ ((h.windows.getD m .initial).matchesCode code = true ∧
    (h.windows.getD n .initial).matchesCode code = true)

/-! ### The fault log (R155, R156) -/

/-- Numbers strictly increase from the oldest record to the newest, all above 0 and below the counter unless it stands past
its range. -/
structure Flm.Numbered (f : Flm) : Prop where
  rises : (f.log.map FaultRecord.seq).Pairwise (· < ·)
  range : ∀ r ∈ f.log, 1 ≤ r.seq ∧ r.seq ≤ maxSeq
  below : f.counter = 0 ∨ ∀ r ∈ f.log, r.seq < f.counter
  count : f.counter ≤ maxSeq

/-! ### System power (section 7.1, R129, R148) -/

/-- The rails and HRST stand as the table of section 7.1 gives for the state, a start is held in OFF alone, and the watchdog
runs in RUN alone (R135, R162). -/
structure State.RailsFollow (s : State) : Prop where
  hrst     : s.psq.hrst = decide (s.psq.state ≠ .run)
  main     : s.psq.mainOn = decide (s.psq.state ≠ .off ∧ s.psq.state ≠ .tripped)
  core     : s.psq.coreOn = decide (s.psq.state = .run ∨ (s.psq.state = .seqUp ∧ s.psq.step ≠ some .mainWait))
  held     : s.psq.held.isSome = true → s.psq.state = .off
  target   : s.psq.downTarget.isSome = true ↔ s.psq.state = .seqDown
  watchdog : s.flm.watchdog.isSome = true → s.psq.state = .run

/-- The latch is set exactly while the part stands in TRIPPED or in the SEQ_DOWN that leads there (R148). -/
structure State.LatchHolds (s : State) : Prop where
  rails : s.RailsFollow
  latch : s.flm.latch.isSet = true ↔ (s.psq.state = .tripped ∨ (s.psq.state = .seqDown ∧ s.psq.downTarget = some .tripped))

/-- The MXS stands in SCANNING in RUN alone (section 5.2, R98). -/
def State.ScansInRun (s : State) : Prop := s.mxs.cond = .scanning → s.psq.state = .run

/-! ### Charging (R55, R62) -/

/-- Charge current flows only into a pack in CHARGING, and a pack is in CHARGING only in ADAPTER_CHARGING with the latch clear;
each set point is 0 or a multiple of 16 from 128 up, and bounds the applied current. -/
structure State.ChargeGuarded (s : State) : Prop where
  applied  : ∀ p, (s.cbu.budget.packs.get p).iApp ≤ (s.cbu.budget.packs.get p).iSet
  steps    : ∀ p, (s.cbu.budget.packs.get p).iSet = 0 ∨
    (128 ≤ (s.cbu.budget.packs.get p).iSet ∧ (s.cbu.budget.packs.get p).iSet % 16 = 0)
  flows    : ∀ p, 0 < (s.cbu.budget.packs.get p).iApp → (s.pack p).state = .charging
  charging : ∀ p, (s.pack p).state = .charging → s.cbu.budget.mode = .adapterCharging ∧ s.flm.latch.isSet = false

/-! ### The budget record (R52 to R59) -/

/-- The record's stages agree with one another: the gap, the mode, the headroom, the derating and the connected set follow
from the inputs that the record holds (R52 to R56, R63). -/
structure Budget.Consistent (b : Budget) : Prop where
  measured   : b.g = b.sample.map (fun m => (b.pContract : Int) - ((m.vBus * m.iSys / 1000 : Nat) : Int))
  noContract : b.pContract = 0 ↔ (b.mode = .noSource ∨ b.mode = .batteryOnly)
  short      : 0 < b.pContract → ∀ g, b.g = some g → (g < 0 ↔ (b.mode = .assist ∨ b.mode = .overdraw))
  unmeasured : b.g = none → b.mode ≠ .overdraw ∧ b.mode ≠ .adapterCharging
  headroom   : b.h = if (b.mode = .adapterOnly ∨ b.mode = .adapterCharging) ∧ b.latch = false then
    (b.g.getD 0 - (b.r : Int)).toNat * b.g.isSome.toNat else 0
  derated    : b.hd = b.h * b.d / 256
  charging   : b.mode = .adapterCharging ↔ (0 < b.packs.a.iSet ∨ 0 < b.packs.b.iSet)
  carries    : (b.connected.a = true ∨ b.connected.b = true) → (b.mode = .batteryOnly ∨ b.mode = .assist)
  timer      : b.overdraw.isSome = true → b.mode = .overdraw

/-- The share of a pack, 0 outside C. -/
def PackBudget.shareOf (b : PackBudget) : Nat :=
  match b.inC with
  | some c => c.share
  | none => 0

/-- The power that a pack's set point draws at its arithmetic voltage, in microwatts. -/
def PackBudget.drawn (b : PackBudget) : Nat :=
  match b.inC with
  | some c => b.iSet * c.vC
  | none => 0

/-- Shares and set points stay within the derated headroom, and a set point within its pack's share, demand and request
(R57 to R59). -/
structure Budget.WithinHeadroom (b : Budget) : Prop where
  shares : b.packs.a.shareOf + b.packs.b.shareOf ≤ b.hd
  drawn  : b.packs.a.drawn + b.packs.b.drawn ≤ 1000 * b.hd
  bounds : ∀ p c, (b.packs.get p).inC = some c →
    c.share ≤ c.q ∧ (b.packs.get p).iSet ≤ c.i ∧ c.i ≤ c.ireq ∧ 2500 ≤ c.vC ∧ c.vC ≤ 20000
  outside : ∀ p, (b.packs.get p).inC = none → (b.packs.get p).iSet = 0

/-- The other pack slot. -/
def otherPack : PackId → PackId
  | .a => .b
  | .b => .a

/-- The weighted part of a pack's share, before an excess is moved (R58). -/
def weighted (hd : Nat) (c d : Share) : Nat := hd * c.weight / (c.weight + d.weight)

/-- The record's demands, shares and set points are exactly those of R57 to R59 from its derated headroom: the demands whole
where they fit; else the one pack's share is the headroom, and two packs' shares are the weighted split, the excess of one over
its demand moved to the other; a set point is the current its share supports in steps of 16 milliamps, and 0 below 128. -/
structure Budget.Split (b : Budget) : Prop where
  eligible : ∀ p, (b.packs.get p).eligible = (b.packs.get p).inC.isSome
  demand   : ∀ p c, (b.packs.get p).inC = some c → c.q = c.ireq * c.vC / 1000
  current  : ∀ p c, (b.packs.get p).inC = some c → c.i = min (c.share * 1000 / c.vC) c.ireq ∧
    (b.packs.get p).iSet = if c.i / 16 * 16 < 128 then 0 else c.i / 16 * 16
  single   : ∀ p c, (b.packs.get p).inC = some c → (b.packs.get (otherPack p)).inC = none → c.share = min c.q b.hd
  enough   : ∀ p c d, (b.packs.get p).inC = some c → (b.packs.get (otherPack p)).inC = some d → c.q + d.q ≤ b.hd →
    c.share = c.q
  split    : ∀ p c d, (b.packs.get p).inC = some c → (b.packs.get (otherPack p)).inC = some d → b.hd < c.q + d.q →
    c.share = if c.q < weighted b.hd c d then c.q
      else if d.q < weighted b.hd d c then min c.q (weighted b.hd c d + (weighted b.hd d c - d.q))
      else weighted b.hd c d

/-! ### Fans (R87, R92) -/

/-- Outside RUN every present fan is off; in RUN, under the failsafe, every present fan runs at 100. -/
structure State.FansGuarded (s : State) : Prop where
  off      : s.psq.state ≠ .run → ∀ f, s.hasFan f = true → (s.fnc.fans.get f).applied = 0
  failsafe : s.psq.state = .run → s.failsafe = true → ∀ f, s.hasFan f = true → (s.fnc.fans.get f).applied = 100

/-! ### Keys (R107) -/

/-- The records of one key in a list of records. -/
def recordsOf (q : List Transition) (c : Nat) : List Bool := (q.filter (fun e => e.code == c)).map Transition.press

/-- No two neighbours are equal. -/
def alternates : List Bool → Bool
  | x :: y :: rest => x != y && alternates (y :: rest)
  | _ => true

/-- The records of each key in the key queue alternate, and the newest gives the key's reported state (R107). -/
structure State.KeysAlternate (s : State) : Prop where
  keys     : s.mxs.keys.length = 144
  lines    : s.mxs.lines.length = 18
  pending  : ∀ e ∈ s.mxs.pending, e.code < 144
  turns    : ∀ c, alternates (recordsOf s.mxs.queue c) = true
  reported : ∀ c, ∀ b ∈ (recordsOf s.mxs.queue c).getLast?, b = (s.mxs.key c).reported

/-! ### Notices and output writes of an event (R40, R47, R55, R132) -/

/-- The event has changed what a PACK notice is due for: the pack's state, its HALTED cause, its presence or a flag (R47). -/
def PackDiffers (k k' : Pack) : Prop :=
  ¬ (k'.state = k.state ∧ k'.cause = k.cause ∧ k'.seated = k.seated ∧ k'.low = k.low ∧ k'.critical = k.critical)

/-- The state after one evaluation of a trigger and `n` further ones, each of trigger PACK (R50). -/
def State.evaluated (s : State) (t : Trigger) : Nat → State
  | 0 => s.evaluate t
  | n + 1 => (s.evaluated t n).evaluate .pack

/-- The working-state decision of some evaluation that the trigger causes changes the pack's state (R35, R50). -/
def State.Moves (s : State) (t : Trigger) (p : PackId) : Prop :=
  ((s.evaluated t 0).pack p).state ≠ (s.pack p).state ∨
    ∃ n, ((s.evaluated t (n + 1)).pack p).state ≠ ((s.evaluated t n).pack p).state

/-- Of each pack that an event has changed, or has moved on the way (`moved`), the notice queue holds one PACK notice, of the
values as they stand after the event; of each other pack it holds the PACK notices that it held before (R35, R47, R176). -/
def State.PacksNoticed (before after : State) (moved : PackId → Prop) : Prop :=
  ∀ p, let k := after.pack p
    let view : PackView := ⟨k.state, if k.state = .halted then k.cause else none, k.seated, k.gauge.map Gauge.relCharge,
      k.gauge.map Gauge.voltage, k.low, k.critical, after.pbc.connected.get p⟩
    (PackDiffers (before.pack p) k ∨ moved p →
      Notice.pack p view ∈ after.lnk.notices ∧ ∀ v, Notice.pack p v ∈ after.lnk.notices → v = view) ∧
    (¬ PackDiffers (before.pack p) k → ¬ moved p →
      ∀ v, Notice.pack p v ∈ after.lnk.notices ↔ Notice.pack p v ∈ before.lnk.notices)

/-- The place of an evaluation's write in the order of R40 and R55: set points lowered, path switches opened, path switches
closed, set points raised. -/
def budgetRank (old : PerPack PackBudget) : OutputWrite → Nat
  | .charger p i => if i < (old.get p).iApp then 0 else 3
  | .pathSwitch _ false => 1
  | .pathSwitch _ true => 2
  | _ => 4

/-- The write is of a rail's enable line or of HRST. -/
def OutputWrite.ofPower : OutputWrite → Bool
  | .railEnable _ _ | .hostReset _ => true
  | _ => false

/-! ### Requests (R171, R189) -/

/-- The kind, tag and payload of a host request. -/
def requestOf : Instr → Option (Nat × Byte × List Byte)
  | .identify t p => some (0x01, t, p)
  | .settingRead t p => some (0x02, t, p)
  | .settingWrite t p => some (0x03, t, p)
  | .powerReport t p => some (0x04, t, p)
  | .packReport t p => some (0x05, t, p)
  | .packAccumClear t p => some (0x06, t, p)
  | .packRawRead t p => some (0x07, t, p)
  | .chargeControl t p => some (0x08, t, p)
  | .adapterRenegotiate t p => some (0x09, t, p)
  | .thermalReport t p => some (0x0A, t, p)
  | .fanCurveWrite t p => some (0x0B, t, p)
  | .fanControl t p => some (0x0C, t, p)
  | .keyControl t p => some (0x0D, t, p)
  | .keyStateRead t p => some (0x0E, t, p)
  | .hotkeyWindowWrite t p => some (0x0F, t, p)
  | .actionWrite t p => some (0x10, t, p)
  | .arbiterWrite t p => some (0x11, t, p)
  | .powerStateRequest t p => some (0x12, t, p)
  | .wakeTimerSet t p => some (0x13, t, p)
  | .watchdogKick t p => some (0x14, t, p)
  | .faultLogRead t p => some (0x15, t, p)
  | .faultLogClear t p => some (0x16, t, p)
  | .faultDone t p => some (0x17, t, p)
  | .retainedRead t p => some (0x18, t, p)
  | .retainedClear t p => some (0x19, t, p)
  | .partReset t p => some (0x1A, t, p)
  | _ => none

/-- The LEN that a request kind requires (R171, R189). -/
def lengthFits (kind : Nat) (payload : List Byte) : Bool :=
  match kind with
  | 0x02 => payload.length == 2
  | 0x03 => payload.length == 6
  | 0x05 | 0x06 | 0x0A | 0x0D | 0x12 => payload.length == 1
  | 0x07 | 0x08 => payload.length == 2
  | 0x0B => decide (2 ≤ payload.length) && payload.length == 2 + 3 * byteAt payload 1
  | 0x0C | 0x10 => payload.length == 3
  | 0x0F => payload.length == 6
  | 0x11 => payload.length == 16
  | 0x13 | 0x15 => payload.length == 4
  | _ => payload.length == 0

/-- The reply queue has room for a reply (R171). -/
def State.hasRoom (s : State) : Prop := s.replyCount < 8

/-- The state with a reply joined to the reply queue: kind + 0x80, the request's tag, the status code, the content (R172,
R189). -/
def State.answered (s : State) (kind : Nat) (tag : Byte) (status : Nat) (content : List Byte) : State :=
  s.setLnk { s.lnk with replies := s.lnk.replies ++ [⟨BitVec.ofNat 8 (kind + 0x80), tag, BitVec.ofNat 8 status :: content⟩] }

/-- The command is a power-on reset or a pin reset. -/
def isColdReset : Instr → Bool
  | .powerOnReset _ | .pinReset _ => true
  | _ => false

/-- The command may take a reset: one of these, or the two events that take a pending soft reset (R184). -/
def mayReset : Instr → Bool
  | .powerOnReset _ | .pinReset _ | .resetTimerExpiry _ | .frameEnd _ => true
  | _ => false

/-- The command may be any request: the last byte of a frame, or a frame of a KIND given as a number. -/
def mayRequest : Instr → Bool
  | .receiveByte _ | .unknownKind _ _ _ => true
  | _ => false

/-- The presence lines that a soft reset taken by this command in this state reads; none where the command takes no soft reset
(R178). -/
def State.softResetBy (s : State) : Instr → Option PresenceLevels
  | .resetTimerExpiry l => if s.lnk.pendingReset.isSome then some l else none
  | .frameEnd l =>
    match s.lnk.tx with
    | some f => if f.carriesReset && s.lnk.pendingReset.isSome then some l else none
    | none => none
  | _ => none

/-! ### What a cold reset leaves (R7, R48, R151, R179) -/

/-- The pins of the board that `State.reset` describes. -/
def bareBoard : Pins :=
  ⟨⟨.openPin, .openPin, .openPin, .openPin, .openPin, .openPin⟩, ⟨false, false, false⟩, false, false, false, false, false⟩

/-- The slot is on the board and its presence line is high (R48). -/
def seatedAtCold (pins : Pins) : PackId → Bool
  | .a => pins.presence.packA
  | .b => pins.straps.packCount != .low && pins.presence.packB

/-- The packs that a cold reset seats, A before B. -/
def coldSeats (pins : Pins) : List PackId := [.a, .b].filter (seatedAtCold pins)

/-- The notices of a cold reset, in the order of R179. -/
def coldNotices (kind : ResetKind) (pins : Pins) : List Notice :=
  [.reset kind, .state .off .reset pins.lidClosed,
   .adapter ⟨if pins.presence.adapter then .querying else .detached, 0, none, 0, none⟩] ++
  (coldSeats pins).map (fun p => .pack p ⟨.ident, none, true, none, none, false, false, false⟩)

/-- The answer to a sequence of bytes received one after another. -/
def receiveAll (s : State) : List Byte → Answer
  | [] => .next s
  | b :: bs =>
    match exec (.receiveByte b) s with
    | .next t => receiveAll t bs
    | r => r

/-- The PSQ's record as SEQ_UP is entered from OFF or TRIPPED: MAIN on, and each step whose power-good input already reads high
ended at once (R130). -/
def Psq.risenFromOff (q : Psq) (k : StartKind) : Psq :=
  { q with
    state := .seqUp, startKind := some k, downTarget := none, downCause := none, restartOrigin := none, held := none,
    mainOn := true, coreOn := q.coreOn || q.mainGood,
    step := some (if q.mainGood then (if q.coreGood then .settle else .coreWait) else .mainWait),
    stepTimer := some (if q.mainGood && q.coreGood then 10 else 30) }

/-- The PSQ's record as SEQ_UP is entered from STANDBY: MAIN is already up (R130). -/
def Psq.risenFromStandby (q : Psq) : Psq :=
  { q with
    state := .seqUp, startKind := some .wake, downTarget := none, downCause := none, restartOrigin := none, held := none,
    coreOn := true, step := some (if q.coreGood then .settle else .coreWait),
    stepTimer := some (if q.coreGood then 10 else 30) }

/-- The wake reason list with a reason appended: once, and not past 6 (R138). -/
def withReason (l : List WakeReason) (w : WakeReason) : List WakeReason := if w ∈ l ∨ 6 ≤ l.length then l else l ++ [w]

end Sys2Proof.Machine
end

