-- ==== Sys2Proof/Certificates/Slice0/Obligations.lean ====
section
/-! DEFINITION. The statements about the P640 for the provers, one `Obligations.<Name>` each. Every rule number is of spec/. A
command's event ends in `State.close`, which `Obligations.CloseOfAnEvent` describes. -/

open Sys2Proof Sys2Proof.Machine

/-! ### The step -/

/-- With a command at the front of the queue, a step is that command's meaning on the state with the queue's rest. On an empty
queue (the model's choice, notes/assumptions/2.md) the part's time advances by a millisecond and every running timer's remaining
time falls, the wake timer's in STANDBY alone; nothing else changes. -/
def Obligations.StepTakesTheFrontCommand : Prop :=
  (∀ (s : State) (c : Instr) (cs : List Instr), s.pending = c :: cs → step s = exec c (s.setPending cs)) ∧
  (∀ s : State, s.pending = [] → step s = .next { s with
     time := s.time + 1
     adn := { s.adn with timer := s.adn.timer.map (· - 1) }
     pbc := { s.pbc with
       packs := ⟨{ s.pbc.packs.a with pollTimer := s.pbc.packs.a.pollTimer.map (· - 1) },
         { s.pbc.packs.b with pollTimer := s.pbc.packs.b.pollTimer.map (· - 1) }⟩
       busTimer := s.pbc.busTimer.map (· - 1) }
     cbu := { s.cbu with budget := { s.cbu.budget with overdraw := s.cbu.budget.overdraw.map (· - 1) } }
     mxs := { s.mxs with passTimer := s.mxs.passTimer.map (· - 1000) }
     psq := { s.psq with
       stepTimer := s.psq.stepTimer.map (· - 1), held := s.psq.held.map (· - 1),
       buttonTimer := s.psq.buttonTimer.map (· - 1), lidTimer := s.psq.lidTimer.map (· - 1),
       holdTimer := s.psq.holdTimer.map (· - 1), lidDelay := s.psq.lidDelay.map (· - 1),
       wakeRemaining := if s.psq.wakeArmed = true ∧ s.psq.state = .standby then s.psq.wakeRemaining - 1
         else s.psq.wakeRemaining }
     flm := { s.flm with watchdog := s.flm.watchdog.map (· - 1) }
     lnk := { s.lnk with
       framer := { s.lnk.framer with timer := s.lnk.framer.timer.map (· - 1) }
       pendingReset := s.lnk.pendingReset.map (· - 1) } })

/-- Every command in every state is answered with a next state, keeps the queue of the others, keeps the part's time unless it is
a power-on reset, and only adds writes of output lines. -/
def Obligations.EveryCommandCompletes : Prop :=
  ∀ (c : Instr) (s : State), ∃ t, exec c s = .next t ∧
    t.pending = s.pending ∧
    (t.time = s.time ∧ s.outs <+: t.outs ∨ ∃ pins, c = .powerOnReset pins)

/-! ### The three resets -/

/-- The whole state a power-on reset leaves, whatever stood before it (R2, R7, R48, R71, R95, R96, R116, R128, R151, R166, R179,
R180, R184, R185). The board `bareBoard` is the one `State.reset` describes;
that its input levels are these is the model's choice (notes/assumptions/7.md), as are the values of the armed flag and of
the disarmed wake timer's remaining time (16.md) and the stopped stability timers (13.md). -/
def Obligations.PowerOnResetState : Prop :=
  (∀ (pins : Pins) (s : State), ∃ t, exec (.powerOnReset pins) s = .next t ∧
    t.time = 0 ∧ t.pending = s.pending ∧ t.pim = ⟨none, pins.presence.adapter⟩ ∧
    t.adn = { Adn.initial with
      state := if pins.presence.adapter then .querying else .detached
      timer := if pins.presence.adapter then some 500 else none } ∧
    (∀ p, t.pack p = if seatedAtCold pins p then
      { Pack.initial with state := .ident, seated := true, pollTimer := some 4000 } else Pack.initial) ∧
    t.pbc.ops = (coldSeats pins).map (fun p => ⟨p, .poll, false⟩) ∧
    t.pbc.busTimer = (if coldSeats pins = [] then none else some 35) ∧
    t.pbc.connected = ⟨false, false⟩ ∧
    t.cbu = .initial ∧ t.thm = .initial ∧ t.fnc = .initial ∧ t.mxs = .initial ∧ t.hkm = .initial ∧ t.flm = .initial ∧
    t.psq = { Psq.initial with
      mainGood := pins.mainGood, coreGood := pins.coreGood, buttonRaw := pins.button, buttonConfirmed := pins.button,
      lidRaw := pins.lidClosed, lidConfirmed := pins.lidClosed,
      held := if pins.straps.autoOn = .high then some 1000 else none,
      startKind := if pins.straps.autoOn = .high then some .autoOn else none } ∧
    t.sst = ⟨.defaults, latchStraps pins.straps, .powerOn, 0, 0⟩ ∧
    t.lnk = (if pins.hrdy then
      { Lnk.initial with
        hrdy := true, notices := (coldNotices .powerOn pins).tail, pointer := 3,
        tx := some ⟨noticeFrame false (.reset .powerOn), false⟩ }
      else { Lnk.initial with notices := coldNotices .powerOn pins })) ∧
  (∀ s : State, exec (.powerOnReset bareBoard) s = .next (State.reset.setPending s.pending))

/-- A pin reset leaves every block as a power-on reset does, but makes no AUTO_ON start and keeps the part's time, the soft reset
count, the retained summary with copies of U and M taken, and a frame being sent (R2, R7, R48, R71, R95, R96, R116, R128, R151,
R164, R166, R179, R180, R184 to R186). That the MXS's armed flag stands clear after it and the disarmed wake
timer's remaining time is 0 (notes/assumptions/16.md), and that the stability timers are stopped (13.md), is the model's choice. -/
def Obligations.PinResetState : Prop :=
  ∀ (pins : Pins) (s : State), ∃ t, exec (.pinReset pins) s = .next t ∧
    t.time = s.time ∧ t.pending = s.pending ∧ t.pim = ⟨none, pins.presence.adapter⟩ ∧
    t.adn = { Adn.initial with
      state := if pins.presence.adapter then .querying else .detached
      timer := if pins.presence.adapter then some 500 else none } ∧
    (∀ p, t.pack p = if seatedAtCold pins p then
      { Pack.initial with state := .ident, seated := true, pollTimer := some 4000 } else Pack.initial) ∧
    t.pbc.ops = (coldSeats pins).map (fun p => ⟨p, .poll, false⟩) ∧
    t.pbc.busTimer = (if coldSeats pins = [] then none else some 35) ∧
    t.pbc.connected = ⟨false, false⟩ ∧
    t.cbu = .initial ∧ t.thm = .initial ∧ t.fnc = .initial ∧ t.mxs = .initial ∧ t.hkm = .initial ∧
    t.flm = { Flm.initial with retained := { s.flm.retained with uCopy := s.flm.u, mCopy := s.flm.m } } ∧
    t.psq = { Psq.initial with
      mainGood := pins.mainGood, coreGood := pins.coreGood, buttonRaw := pins.button, buttonConfirmed := pins.button,
      lidRaw := pins.lidClosed, lidConfirmed := pins.lidClosed } ∧
    t.sst = ⟨.defaults, latchStraps pins.straps, .pin, min 255 (s.sst.pinCount + 1), s.sst.softCount⟩ ∧
    t.lnk = (match s.lnk.tx with
      | some f => { Lnk.initial with hrdy := pins.hrdy, notices := coldNotices .pin pins, tx := some { f with carriesReset := false } }
      | none => if pins.hrdy then
          { Lnk.initial with
            hrdy := true, notices := (coldNotices .pin pins).tail, pointer := 3,
            tx := some ⟨noticeFrame false (.reset .pin), false⟩ }
        else { Lnk.initial with notices := coldNotices .pin pins })

/-- A soft reset, taken at the reset timer's expiry or at the end of the frame of a PART_RESET reply (R178): what the blocks
restore and what they keep (R2, R3, R7, R49, R72, R95, R96, R116, R128, R152, R164, R167, R179, R184, R185). A pack whose
presence line agrees with its record keeps the whole of it but for its working state and its poll timer, and an ADN whose line
agrees keeps its exchange and its timer. Where every line agrees, no setting is changed by the restore and no held start may go
on, the ADN, the THM and the PSQ stand as they stood, but for the wake timer disarmed, and so do the log, the counter and the
latch's cause set. With no reset pending the timer does not run. That the disarmed wake timer's remaining time is 0 is the model's
choice (notes/assumptions/16.md). -/
def Obligations.SoftResetState : Prop :=
  (∀ (c : Instr) (lines : PresenceLevels) (s : State), s.softResetBy c = some lines →
    ∃ t, exec c s = .next t ∧
    t.time = s.time ∧ t.pim = ⟨none, lines.adapter⟩ ∧
    t.sst = ⟨.defaults, s.sst.straps, .soft, s.sst.pinCount, min 255 (s.sst.softCount + 1)⟩ ∧
    t.hkm = .initial ∧
    t.mxs.keys = List.replicate 144 .up ∧ t.mxs.lines = List.replicate 18 .initial ∧ t.mxs.enable = true ∧
    t.mxs.pending = [] ∧ t.mxs.queue = [] ∧ t.mxs.stalled = false ∧ t.mxs.passCount = 0 ∧
    t.cbu.enable = ⟨true, true⟩ ∧ t.cbu.budget.overdraw = none ∧
    (∀ p, (t.cbu.budget.packs.get p).iSet = 0 ∧ (t.cbu.budget.packs.get p).iApp = 0) ∧
    (∀ p, (t.pack p).state ≠ .charging) ∧
    (∀ p, (t.pack p).accum =
      if s.hasPack p = true ∧ packLine lines p = true ∧ (s.pack p).state = .absent then 0 else (s.pack p).accum) ∧
    t.inFlight = [] ∧
    t.thm.slots = s.thm.slots ∧
    (∀ f, (t.fnc.fans.get f).mode = .auto ∧ (t.fnc.fans.get f).manual = 0 ∧
      (t.fnc.fans.get f).degraded = (s.fnc.fans.get f).degraded) ∧
    t.fnc.boost = 0 ∧ t.fnc.quiet = false ∧ t.fnc.curveOpen = defaultCurveOpen ∧ t.fnc.curveClosed = defaultCurveClosed ∧
    t.psq.wakeArmed = false ∧ t.flm.watchdog = none ∧
    t.flm.retained.uCopy = s.flm.u ∧ t.flm.retained.mCopy = s.flm.m ∧
    t.lnk.framer = .initial ∧ t.lnk.replies = [] ∧ t.lnk.phases = defaultPhases ∧ t.lnk.hrdy = s.lnk.hrdy ∧
    t.lnk.pendingReset = none ∧
    (∀ p, (s.hasPack p = true → packLine lines p = true ∧ (s.pack p).state ≠ .absent) →
      t.pack p = { s.pack p with state := (t.pack p).state, pollTimer := (t.pack p).pollTimer } ∧
      (if (s.pack p).state.working then (t.pack p).state.working = true else (t.pack p).state = (s.pack p).state)) ∧
    (lines.adapter = decide (s.adn.state ≠ .detached) →
      t.adn.state = s.adn.state ∧ t.adn.offers = s.adn.offers ∧ t.adn.candidates = s.adn.candidates ∧
      t.adn.tried = s.adn.tried ∧ t.adn.outstanding = s.adn.outstanding ∧ t.adn.timer = s.adn.timer) ∧
    (s.sst.settings = .defaults → lines.adapter = decide (s.adn.state ≠ .detached) →
      (∀ p, s.hasPack p = true → packLine lines p = decide ((s.pack p).state ≠ .absent)) →
      (s.psq.held.isSome = true → s.permission = false) →
      t.adn = s.adn ∧ t.thm = s.thm ∧ t.psq = { s.psq with wakeArmed := false, wakeRemaining := 0 } ∧
      t.flm.log = s.flm.log ∧ t.flm.counter = s.flm.counter ∧
      t.flm.marks = s.flm.marks.take 8 ++ List.replicate 18 none ++ s.flm.marks.drop 26 ∧
      t.flm.latch.thermCritical = s.flm.latch.thermCritical ∧ t.flm.latch.railFault = s.flm.latch.railFault ∧
      t.flm.latch.overdrawHold.isSome = s.flm.latch.overdrawHold.isSome)) ∧
  (∀ (lines : PresenceLevels) (s : State), s.lnk.pendingReset = none → exec (.resetTimerExpiry lines) s = .next s)

/-! ### Invariants that every step keeps -/

/-- The state after reset meets every invariant below. -/
def Obligations.ResetMeetsTheInvariants : Prop :=
  State.reset.ListsBounded ∧ State.reset.RepliesBounded ∧ State.reset.KeyQueueGuarded ∧ State.reset.hkm.WindowsApart ∧
  State.reset.flm.Numbered ∧ State.reset.LatchHolds ∧ State.reset.ChargeGuarded ∧ State.reset.FansGuarded ∧
  State.reset.KeysAlternate ∧ State.reset.ScansInRun ∧ State.reset.cbu.budget.Consistent ∧ State.reset.cbu.budget.WithinHeadroom ∧
  State.reset.cbu.budget.Split

/-- Every list keeps to its capacity, M is never set while U is clear, at most one poll a pack and two raw reads are listed, the
reply queue's count stays at most 8, and the log's sequence numbers strictly increase and stay below the counter (R27, R43, R105,
R120, R138, R155, R156, R157, R171, R172, R176, R177). -/
def Obligations.QueuesStayBounded : Prop :=
  ∀ s t : State, step s = .next t →
    (s.ListsBounded → t.ListsBounded) ∧ (s.RepliesBounded → t.RepliesBounded) ∧ (s.flm.Numbered → t.flm.Numbered)

/-- Every setting stays in its range with its pair's distance, the wake mask keeps BUTTON, and the key queue is stalled from
KEY_Q_UPPER on, so that it never passes 32 (R109, R182, R183, R185). -/
def Obligations.SettingsAndKeyQueueStayGuarded : Prop :=
  ∀ s t : State, s.KeyQueueGuarded → step s = .next t → t.KeyQueueGuarded

/-- No code ever matches two windows, and no action index leaves the action table (R117, R120, R121). -/
def Obligations.WindowsStayApart : Prop :=
  ∀ s t : State, s.hkm.WindowsApart → step s = .next t → t.hkm.WindowsApart

/-- The rails, HRST, the held start and the watchdog follow the system power state, the latch is set exactly in TRIPPED and
in the SEQ_DOWN that leads there, and the MXS scans in RUN alone (R98, R129, R132, R135, R148, R162). -/
def Obligations.RailsAndLatchFollowTheState : Prop :=
  (∀ s t : State, s.LatchHolds → step s = .next t → t.LatchHolds) ∧
  (∀ s t : State, s.ScansInRun → step s = .next t → t.ScansInRun)

/-- Charge current flows only into a pack in CHARGING, which stands only in ADAPTER_CHARGING with the latch clear; set points are
0 or multiples of 16 from 128 up (R55, R59, R61, R62). -/
def Obligations.ChargingStaysGuarded : Prop :=
  ∀ s t : State, s.ChargeGuarded → step s = .next t → t.ChargeGuarded

/-- Outside RUN the fans are off; in RUN the failsafe holds them at 100 (R85, R87, R92). -/
def Obligations.FansStayGuarded : Prop :=
  ∀ s t : State, s.FansGuarded → step s = .next t → t.FansGuarded

/-- The records of each key in the key queue alternate, and the newest is the key's reported state (R107). -/
def Obligations.KeyRecordsAlternate : Prop :=
  ∀ s t : State, s.KeysAlternate → step s = .next t → t.KeysAlternate

/-- The budget record's stages agree with its inputs, the charge it sets stays within the derated headroom, and its demands,
shares and set points are exactly those that the split of that headroom gives (R52 to R59, R63). -/
def Obligations.BudgetStaysConsistent : Prop :=
  (∀ s t : State, s.cbu.budget.Consistent → s.cbu.budget.WithinHeadroom → step s = .next t →
    t.cbu.budget.Consistent ∧ t.cbu.budget.WithinHeadroom) ∧
  (∀ s t : State, s.cbu.budget.Split → step s = .next t → t.cbu.budget.Split)

/-! ### What only certain commands change -/

/-- Apart from resets and from bytes and frames that may be any request, each of these pieces of state is changed by its own
command alone; the settings but CHARGE_LIMIT, which a hotkey action also writes, by SETTING_WRITE alone (R1, R3, R67, R73, R84,
R114, R121, R123, R126, R168, R175, R180, R182). -/
def Obligations.BlocksChangeOnlyByTheirCommands : Prop :=
  (∀ (c : Instr) (s t : State), exec c s = .next t → mayReset c = false → mayRequest c = false →
    ((∀ v i, c ≠ .powerSample v i) → t.pim.sample = s.pim.sample) ∧
    (c ≠ .adapterPresenceRise → c ≠ .adapterPresenceFall → t.pim.presence = s.pim.presence) ∧
    ((∀ tag p, c ≠ .chargeControl tag p) → t.cbu.enable = s.cbu.enable) ∧
    ((∀ n st v, c ≠ .sensorReading n st v) → t.thm.slots = s.thm.slots) ∧
    ((∀ tag p, c ≠ .fanCurveWrite tag p) → t.fnc.curveOpen = s.fnc.curveOpen ∧ t.fnc.curveClosed = s.fnc.curveClosed) ∧
    ((∀ tag p, c ≠ .keyControl tag p) → t.mxs.enable = s.mxs.enable) ∧
    ((∀ tag p, c ≠ .hotkeyWindowWrite tag p) → t.hkm.windows = s.hkm.windows) ∧
    ((∀ tag p, c ≠ .actionWrite tag p) → t.hkm.actions = s.hkm.actions) ∧
    ((∀ i b, c ≠ .rawLevelChange i b) → t.psq.buttonRaw = s.psq.buttonRaw ∧ t.psq.lidRaw = s.psq.lidRaw) ∧
    ((∀ i, c ≠ .stabilityTimerExpiry i) →
      t.psq.buttonConfirmed = s.psq.buttonConfirmed ∧ t.psq.lidConfirmed = s.psq.lidConfirmed) ∧
    ((∀ r, c ≠ .powerGoodRise r ∧ c ≠ .powerGoodFall r) →
      t.psq.mainGood = s.psq.mainGood ∧ t.psq.coreGood = s.psq.coreGood) ∧
    (c ≠ .hrdyAssert → c ≠ .hrdyDeassert → t.lnk.hrdy = s.lnk.hrdy) ∧
    ((∀ tag p, c ≠ .arbiterWrite tag p) → t.lnk.phases = s.lnk.phases) ∧
    ((∀ tag p, c ≠ .partReset tag p) → t.lnk.pendingReset = s.lnk.pendingReset) ∧
    ((∀ tag p, c ≠ .settingWrite tag p) → ∀ i, i ≠ .chargeLimit → t.setting i = s.setting i)) ∧
  (∀ (c : Instr) (s t : State), exec c s = .next t → isColdReset c = false → t.sst.straps = s.sst.straps)

/-- The adapter's state, offers, record and contract power change by the adapter's commands, a renegotiation and a setting write
alone, resets and requests by bytes apart; and the contract power rises only at READY, at the ability timer's expiry and at a
setting write (R5, R9 to R11, R13 to R17, R19, R20). -/
def Obligations.ContractPowerRises : Prop :=
  ∀ (c : Instr) (s t : State), exec c s = .next t → mayReset c = false → mayRequest c = false →
    (t.adn ≠ s.adn →
      c = .adapterPresenceRise ∨ c = .adapterPresenceFall ∨ (∃ k l, c = .ability k l) ∨ (∃ k i, c = .accept k i) ∨
      (∃ k i, c = .reject k i) ∨ (∃ k i, c = .ready k i) ∨ c = .abilityTimerExpiry ∨ c = .selectTimerExpiry ∨
      c = .readyTimerExpiry ∨ (∃ tag p, c = .adapterRenegotiate tag p) ∨ (∃ tag p, c = .settingWrite tag p)) ∧
    (s.adn.pContract < t.adn.pContract →
      (∃ k i, c = .ready k i) ∨ c = .abilityTimerExpiry ∨ (∃ tag p, c = .settingWrite tag p))

/-- No command but POWER_SAMPLE raises a charger's current, and a sample raises it by at most 128 milliamps (R60, R61, R70). -/
def Obligations.CurrentRisesOnlyAtSamples : Prop :=
  ∀ (c : Instr) (s t : State) (p : PackId), exec c s = .next t →
    ((∀ v i, c ≠ .powerSample v i) → (t.cbu.budget.packs.get p).iApp ≤ (s.cbu.budget.packs.get p).iApp) ∧
    (t.cbu.budget.packs.get p).iApp ≤ (s.cbu.budget.packs.get p).iApp + 128

/-! ### The charge budget -/

/-- The chain of evaluations of R50 ends where a further one would change neither the set nor a pack's state, and every pack
in a working state then stands as the working-state decision gives it. A pack's path switch is then closed exactly when the
mode is BATTERY_ONLY or ASSIST, the pack is dischargeable, and the other pack is not or stands at most 200 millivolts above
it; a connected pack is DISCHARGING. One evaluation writes exactly the outputs it changes, each once: the set points that
fall, then the path switches that open, then those that close, then the set points that rise. After a trigger each pack that
an evaluation of the chain has moved, be it back to the state it had, has one PACK notice of its values after the chain, and
no other pack has a new one (R35, R38 to R40, R47, R50, R55). -/
def Obligations.EvaluationSettles : Prop :=
  (∀ (s : State) (trigger : Trigger),
     ((s.evaluateFor trigger).evaluate .pack).pbc.connected = (s.evaluateFor trigger).pbc.connected ∧
     ∀ p, (((s.evaluateFor trigger).evaluate .pack).pack p).state = ((s.evaluateFor trigger).pack p).state ∧
       (((s.evaluateFor trigger).pack p).state.working = true →
         (s.evaluateFor trigger).workingState p = ((s.evaluateFor trigger).pack p).state)) ∧
  (∀ (s : State) (trigger : Trigger) (p : PackId),
     ((s.evaluateFor trigger).pbc.connected.get p = true ↔
       ((s.evaluateFor trigger).cbu.budget.mode = .batteryOnly ∨ (s.evaluateFor trigger).cbu.budget.mode = .assist) ∧
       (s.pack p).dischargeable = true ∧
       ((s.pack (otherPack p)).dischargeable = false ∨ (s.pack (otherPack p)).voltage ≤ (s.pack p).voltage + 200)) ∧
     ((s.evaluateFor trigger).pbc.connected.get p = true → ((s.evaluateFor trigger).pack p).state = .discharging)) ∧
  (∀ (s : State) (trigger : Trigger),
     let t := s.evaluate trigger
     let writes := t.outs.drop s.outs.length
     t.outs.take s.outs.length = s.outs ∧ writes.Nodup ∧
     writes.Pairwise (fun x y => budgetRank s.cbu.budget.packs x ≤ budgetRank s.cbu.budget.packs y) ∧
     (∀ w ∈ writes, budgetRank s.cbu.budget.packs w < 4) ∧
     ∀ p, (∀ i, OutputWrite.charger p i ∈ writes ↔
         i = (t.cbu.budget.packs.get p).iApp ∧ i ≠ (s.cbu.budget.packs.get p).iApp) ∧
       (∀ on, OutputWrite.pathSwitch p on ∈ writes ↔ on = t.pbc.connected.get p ∧ on ≠ s.pbc.connected.get p)) ∧
  (∀ (s : State) (trigger : Trigger), s.lnk.notices.length ≤ 14 →
     s.PacksNoticed (s.trigger trigger) (s.Moves trigger) ∧
     ∀ p, ((s.trigger trigger).pack p).state = ((s.evaluateFor trigger).pack p).state)

/-- A power sample is clamped, replaces the latest one, and is the input of the evaluation that leaves the budget record. Every
evaluation divides the derated headroom exactly among the eligible packs, with each one's clamped voltage, requested current and
weight, and moves each applied current: down to a lower set point at once, and up in an evaluation of a sample alone, by one step
of the ramp. A sample after which the same packs are eligible as before leaves the applied currents one step on (R1, R36, R50 to
R54, R57 to R61). -/
def Obligations.PowerSampleIsEvaluated : Prop :=
  (∀ (vBus iSys : Int) (s : State), ∃ t, exec (.powerSample vBus iSys) s = .next t ∧
    t.pim = ⟨some ⟨(max 0 (min 30000 vBus)).toNat, (max 0 (min 15000 iSys)).toNat⟩, s.pim.presence⟩ ∧
    t.cbu.budget.sample = t.pim.sample ∧
    t.cbu.budget.pContract = s.adn.pContract ∧
    t.cbu.budget.g = some ((s.adn.pContract : Int) -
      (((max 0 (min 30000 vBus)).toNat * (max 0 (min 15000 iSys)).toNat / 1000 : Nat) : Int)) ∧
    t.cbu.budget.r = s.settingN .reserveMw ∧ t.cbu.budget.d = s.thm.d ∧ t.cbu.budget.latch = s.flm.latch.isSet ∧
    t.cbu.budget.Consistent ∧ t.cbu.budget.WithinHeadroom ∧
    t.adn = s.adn ∧ t.thm = s.thm) ∧
  (∀ (s : State) (trigger : Trigger) (p : PackId),
    let b := (s.evaluate trigger).cbu.budget
    let old := (s.cbu.budget.packs.get p).iApp
    let iSet := (b.packs.get p).iSet
    b.Split ∧
    ((b.packs.get p).eligible = true ↔
      ((s.pack p).state = .ready ∨ (s.pack p).state = .charging) ∧ s.cbu.enable.get p = true ∧
      ∃ g, (s.pack p).gauge = some g ∧ (g.relCharge : Int) < s.setting .chargeLimit ∧ 0 ≤ g.temperature ∧ g.temperature ≤ 449) ∧
    (∀ c, (b.packs.get p).inC = some c → ∃ g, (s.pack p).gauge = some g ∧
      c.vC = max 2500 (min 20000 g.voltage) ∧
      c.ireq = min g.ireq (s.settingN (match p with
        | .a => .packImaxA
        | .b => .packImaxB)) ∧
      c.weight = s.settingN (match p with
        | .a => .packWeightA
        | .b => .packWeightB)) ∧
    (b.packs.get p).iApp =
      if iSet < old then iSet
      else if trigger = .sample then min iSet (old + if old < iSet / 32 * 16 then 128 else 64)
      else old) ∧
  (∀ (vBus iSys : Int) (s : State), s.lnk.canStart = false → s.psq.held = none →
    ∃ t, exec (.powerSample vBus iSys) s = .next t ∧ t.cbu.budget.Split ∧
    ∀ p, (t.cbu.budget.packs.get p).eligible = t.eligible p ∧
      ((∀ q, t.eligible q = s.eligible q) →
        let old := (s.cbu.budget.packs.get p).iApp
        let iSet := (t.cbu.budget.packs.get p).iSet
        (t.cbu.budget.packs.get p).iApp =
          if iSet < old then iSet else min iSet (old + if old < iSet / 32 * 16 then 128 else 64)))

/-- The overdraw timer's expiry in OVERDRAW reports OVERDRAW_HOLD: the latch is set with that cause, charging is cut where the latch
was clear, and the system stands in TRIPPED or in the SEQ_DOWN that leads there (R64, R65, R148, R160). With the timer stopped
nothing happens. -/
def Obligations.OverdrawExpiryTrips : Prop :=
  (∀ s : State, s.LatchHolds → s.cbu.budget.overdraw.isSome = true → s.cbu.budget.mode = .overdraw →
    ∃ t, exec .overdrawTimerExpiry s = .next t ∧
    t.cbu.budget.overdraw = none ∧
    t.flm.latch.overdrawHold.isSome = true ∧
    t.flm.retained.protect = true ∧ t.flm.retained.lastProtect = some .overdrawHold ∧ t.flm.u = true ∧
    (s.flm.latch.isSet = false →
      ∀ p, (t.cbu.budget.packs.get p).iSet = 0 ∧ (t.cbu.budget.packs.get p).iApp = 0) ∧
    (t.psq.state = .tripped ∨ (t.psq.state = .seqDown ∧ t.psq.downTarget = some .tripped))) ∧
  (∀ s : State, s.cbu.budget.overdraw = none → exec .overdrawTimerExpiry s = .next s)

/-! ### The adapter -/

/-- A rise in DETACHED sends QUERY and starts the ability timer; a fall empties the negotiator and cuts every charge current that a
contract allowed. Each sends an ADAPTER notice where the state or the contract power changes, and is handed on as the ADAPTER wake
source. Edges alternate: an edge to the level already held is none (R3, R6, R8, R9, R17, R22). That the ADN takes an edge before
the PSQ, and that the ADAPTER notice follows the PACK notices, is the model's choice (notes/assumptions/19.md). -/
def Obligations.AdapterPresenceEdges : Prop :=
  (∀ s : State, s.pim.presence = false → s.adn.state = .detached →
    exec .adapterPresenceRise s = .next (((({ s with
        pim := { s.pim with presence := true }
        adn := { s.adn with state := .querying, timer := some 500 }
        outs := s.outs ++ [.adapterLink .query] } : State).notice
      (.adapter ⟨.querying, s.adn.pContract, s.adn.record, s.adn.offers.length, s.adn.outstanding⟩)).wakeSource
      .adapter).close s)) ∧
  (∀ s : State, s.pim.presence = true → ∃ t, exec .adapterPresenceFall s = .next t ∧
    t.pim = { s.pim with presence := false } ∧
    t.adn = ⟨.detached, [], [], [], none, none, none, 0⟩ ∧
    (s.adn.pContract ≠ 0 → t.cbu.budget.pContract = 0 ∧
      ∀ p, (t.cbu.budget.packs.get p).iSet = 0 ∧ (t.cbu.budget.packs.get p).iApp = 0)) ∧
  (∀ s : State, s.pim.presence = true → exec .adapterPresenceFall s = .next (
    let cut := ({ s with
      pim := { s.pim with presence := false }
      adn := ⟨.detached, [], [], [], none, none, none, 0⟩ } : State).handContract s
    ((if s.adn.state = .detached ∧ s.adn.pContract = 0 then cut
      else cut.notice (.adapter ⟨.detached, 0, none, 0, none⟩)).wakeSource .adapter).close s)) ∧
  (∀ s : State, s.pim.presence = true → exec .adapterPresenceRise s = .next s) ∧
  (∀ s : State, s.pim.presence = false → exec .adapterPresenceFall s = .next s)

/-- The ranking of R12: exactly the offers within the voltage window with a current above 0, each once, in the order of score
highest first, then voltage lower first, then index lower first; and the power an offer would give. -/
def Obligations.CandidateRanking : Prop :=
  (∀ (vMin vMax : Int) (cap : Nat) (offers : List Offer),
    (∀ i, i ∈ rankCandidates vMin vMax cap offers ↔
      ∃ o, offers[i]? = some o ∧ vMin ≤ (o.voltage : Int) ∧ (o.voltage : Int) ≤ vMax ∧ 0 < o.current) ∧
    (rankCandidates vMin vMax cap offers).Pairwise (fun i j =>
      ∀ x y, offers[i]? = some x → offers[j]? = some y →
        min (y.voltage * y.current / 1000) cap < min (x.voltage * x.current / 1000) cap ∨
        (min (x.voltage * x.current / 1000) cap = min (y.voltage * y.current / 1000) cap ∧
          (x.voltage < y.voltage ∨ (x.voltage = y.voltage ∧ i < j))))) ∧
  (∀ (s : State) (i : Nat) (o : Offer), s.adn.offers[i]? = some o →
    s.pOffer i = min (o.voltage * o.current / 1000) (s.settingN .powerCapMw) * s.settingN .efficiency / 256)

/-- An ABILITY that passes the checks starts a selection of the best candidate: the contract power is cut first, and every
charger set point that the cut lowers is written before SELECT is sent. With no candidate the negotiator gives up with
ADAPTER_NO_OFFER; that its report comes before the ADAPTER notice is the model's reading (notes/assumptions/11.md), and that
the PACK notices of the evaluation stand before the report's ADVISORY notice and before the ADAPTER notice is the model's
choice (notes/assumptions/19.md). A discarded or untimely ABILITY changes nothing (R4, R5, R11, R13, R17, R21, R60). -/
def Obligations.AbilityStartsASelection : Prop :=
  (∀ (offers : List Offer) (s : State),
    1 ≤ offers.length → offers.length ≤ 6 →
    (∀ o ∈ offers, 5000 ≤ o.voltage ∧ o.voltage ≤ 48000 ∧ o.voltage % 100 = 0 ∧ o.current ≤ 5000 ∧ o.current % 10 = 0) →
    s.adn.state ≠ .detached →
    (∀ i rest, rankCandidates (s.setting .adapterVMin) (s.setting .adapterVMax) (s.settingN .powerCapMw) offers = i :: rest →
      ∃ t, exec (.ability true offers) s = .next t ∧
      t.adn = { state := .selecting, offers := offers, candidates := i :: rest, tried := [i], outstanding := some i,
                timer := some 50, record := s.adn.record,
                pContract := min (({ s with adn := { s.adn with offers := offers } } : State).pOffer i) s.adn.pContract } ∧
      (t.adn.pContract ≠ s.adn.pContract → t.cbu.budget.pContract = t.adn.pContract) ∧
      let cut := ({ s with adn := { s.adn with
        offers := offers, candidates := i :: rest, tried := [], outstanding := none, timer := none,
        pContract := min (({ s with adn := { s.adn with offers := offers } } : State).pOffer i) s.adn.pContract } } :
          State).handContract s
      ∃ lowered after, cut.outs = s.outs ++ lowered ∧ t.outs = cut.outs ++ [.adapterLink (.select i)] ++ after ∧
        (∀ m, OutputWrite.adapterLink m ∉ lowered ++ after) ∧
        ∀ p, (t.cbu.budget.packs.get p).iApp ≤ (cut.cbu.budget.packs.get p).iApp ∧
          ((cut.cbu.budget.packs.get p).iApp < (s.cbu.budget.packs.get p).iApp →
            OutputWrite.charger p (cut.cbu.budget.packs.get p).iApp ∈ lowered)) ∧
    (rankCandidates (s.setting .adapterVMin) (s.setting .adapterVMax) (s.settingN .powerCapMw) offers = [] →
      exec (.ability true offers) s = .next ((((({ s with
          adn := { state := .rejected, offers := offers, candidates := [], tried := [], outstanding := none, timer := none,
                   record := none, pContract := 0 } } : State).handContract s).report
        .adapterNoOffer .adapter (some offers.length)).notifyAdapter s).close s))) ∧
  (∀ (checkOk : Bool) (offers : List Offer) (s : State),
    (checkOk = false ∨ offers = [] ∨ 6 < offers.length ∨ s.adn.state = .detached ∨
      ∃ o ∈ offers, o.voltage < 5000 ∨ 48000 < o.voltage ∨ o.voltage % 100 ≠ 0 ∨ 5000 < o.current ∨ o.current % 10 ≠ 0) →
    exec (.ability checkOk offers) s = .next s)

/-- ACCEPT and READY are taken in the state that waits for them, with the outstanding SELECT's index: ACCEPT enters SWITCHING, READY
makes the negotiated contract. In every other case nothing changes (R4, R5, R6, R14, R16 to R18, R22). -/
def Obligations.AcceptAndReady : Prop :=
  (∀ (index : Nat) (s : State), index ≤ 5 → s.adn.state = .selecting → s.adn.outstanding = some index →
    exec (.accept true index) s = .next ((({ s with
        adn := { s.adn with state := .switching, timer := some 300 } } : State).notice
      (.adapter ⟨.switching, s.adn.pContract, s.adn.record, s.adn.offers.length, some index⟩)).close s)) ∧
  (∀ (index : Nat) (o : Offer) (s : State), index ≤ 5 → s.adn.state = .switching → s.adn.outstanding = some index →
    s.adn.offers[index]? = some o →
    ∃ t, exec (.ready true index) s = .next t ∧
    t.adn = { state := .contract, offers := s.adn.offers, candidates := [], tried := [], outstanding := none, timer := none,
              record := some ⟨.negotiated, some index, o.voltage, o.current,
                min (o.voltage * o.current / 1000) (s.settingN .powerCapMw),
                min (o.voltage * o.current / 1000) (s.settingN .powerCapMw) * s.settingN .efficiency / 256⟩,
              pContract := min (o.voltage * o.current / 1000) (s.settingN .powerCapMw) * s.settingN .efficiency / 256 } ∧
    (t.adn.pContract ≠ s.adn.pContract → t.cbu.budget.pContract = t.adn.pContract)) ∧
  (∀ (checkOk : Bool) (index : Nat) (s : State),
    (checkOk = false ∨ 5 < index ∨ s.adn.outstanding ≠ some index ∨ s.adn.state ≠ .selecting →
      exec (.accept checkOk index) s = .next s ∧ exec (.reject checkOk index) s = .next s) ∧
    (checkOk = false ∨ 5 < index ∨ s.adn.outstanding ≠ some index ∨ s.adn.state ≠ .switching →
      exec (.ready checkOk index) s = .next s))

/-- A REJECT taken in SELECTING and the select timer's expiry are failures: on the first, with an untried candidate, the next
is selected; otherwise the selection fails, as it does at the ready timer's expiry in SWITCHING: the contract is given up and
ADAPTER_REJECTED reported (R6, R13, R15, R16, R21). That the report comes before the ADAPTER notice is the model's reading
(notes/assumptions/11.md), and that the PACK notices of the evaluation stand before the report's ADVISORY notice and before
the ADAPTER notice is the model's choice (notes/assumptions/19.md). -/
def Obligations.SelectionFailures : Prop :=
  (∀ (c : Instr) (s : State), s.adn.state = .selecting →
    (c = .selectTimerExpiry ∨ ∃ i, i ≤ 5 ∧ s.adn.outstanding = some i ∧ c = .reject true i) →
    (∀ j, s.adn.tried.length < 2 → s.adn.candidates.find? (fun i => !s.adn.tried.contains i) = some j →
      ∃ t, exec c s = .next t ∧
      t.adn = { s.adn with
        tried := s.adn.tried ++ [j], outstanding := some j, timer := some 50, pContract := min (s.pOffer j) s.adn.pContract } ∧
      (t.adn.pContract ≠ s.adn.pContract → t.cbu.budget.pContract = t.adn.pContract)) ∧
    (2 ≤ s.adn.tried.length ∨ s.adn.candidates.find? (fun i => !s.adn.tried.contains i) = none →
      exec c s = .next ((((({ s with
          adn := { s.adn with
            state := .rejected, candidates := [], tried := [], outstanding := none, timer := none, record := none,
            pContract := 0 } } : State).handContract s).report .adapterRejected .adapter
        (some ((s.adn.outstanding.getD 0 : Nat) : Int))).notifyAdapter s).close s))) ∧
  (∀ s : State, s.adn.state = .switching →
    exec .readyTimerExpiry s = .next ((((({ s with
        adn := { s.adn with
          state := .rejected, candidates := [], tried := [], outstanding := none, timer := none, record := none,
          pContract := 0 } } : State).handContract s).report .adapterRejected .adapter
      (some ((s.adn.outstanding.getD 0 : Nat) : Int))).notifyAdapter s).close s)) ∧
  (∀ s : State, s.adn.state ≠ .selecting → exec .selectTimerExpiry s = .next s) ∧
  (∀ s : State, s.adn.state ≠ .switching → exec .readyTimerExpiry s = .next s)

/-- The ability timer's expiry in QUERYING: legacy power from 4500 millivolts up, else REJECTED with ADAPTER_NO_OFFER; and the
renegotiation request, refused in DETACHED, else back to QUERYING with the contract kept (R2, R10, R18, R20, R21). That the
report ADAPTER_NO_OFFER comes before the ADAPTER notice is the model's reading (notes/assumptions/11.md), and that the PACK
notices of the evaluation stand before the report's ADVISORY notice and before the ADAPTER notice is the model's choice
(notes/assumptions/19.md). -/
def Obligations.AbilityTimerAndRenegotiation : Prop :=
  (∀ (m : PowerSample) (s : State), s.adn.state = .querying → s.pim.sample = some m → 4500 ≤ m.vBus →
    ∃ t, exec .abilityTimerExpiry s = .next t ∧
    t.adn = { s.adn with
      state := .legacy, timer := none,
      record := some ⟨.legacy, none, m.vBus, min (s.settingN .legacyMw) (s.settingN .powerCapMw) * 1000 / m.vBus,
        min (s.settingN .legacyMw) (s.settingN .powerCapMw), min (s.settingN .legacyMw) (s.settingN .powerCapMw)⟩,
      pContract := min (s.settingN .legacyMw) (s.settingN .powerCapMw) }) ∧
  (∀ s : State, s.adn.state = .querying → (∀ m, s.pim.sample = some m → m.vBus < 4500) →
    exec .abilityTimerExpiry s = .next ((((({ s with
        adn := { s.adn with state := .rejected, timer := none, record := none, pContract := 0 } } : State).handContract
      s).report .adapterNoOffer .adapter (some 0)).notifyAdapter s).close s)) ∧
  (∀ s : State, s.adn.state ≠ .querying → exec .abilityTimerExpiry s = .next s) ∧
  (∀ (tag : Byte) (s : State), s.hasRoom →
    (s.adn.state = .detached → exec (.adapterRenegotiate tag []) s = .next ((s.answered 0x09 tag 8 []).close s)) ∧
    (s.adn.state ≠ .detached → exec (.adapterRenegotiate tag []) s = .next ((({ s.answered 0x09 tag 0 [] with
        adn := { s.adn with
          state := .querying, outstanding := none, candidates := [], tried := [], timer := some 500 }
        outs := s.outs ++ [.adapterLink .query] } : State).notifyAdapter s).close s)))

/-! ### The packs -/

/-- A pack that rises enters IDENT with its record prepared and a poll listed; one that falls enters ABSENT with its
accumulator kept, its unstarted operations removed, its charge and its connection cut. A strapped-out slot is not read, and an
edge to the level already held is none. Every pack whose record's notified fields the event changes, or that an evaluation of
the event moves and a later one moves back, has one PACK notice of its values after the event, and no other pack has a new one
(R23 to R25, R28, R29, R47). That a rise lists no second poll behind one of the pack that is still listed, and that the poll
of a pack that falls runs on, are the model's reading (notes/assumptions/8.md), and the order of the replies to its waiting
raw reads is the model's choice (19.md). -/
def Obligations.PackPresenceEdges : Prop :=
  (∀ (p : PackId) (s : State), s.hasPack p = true → (s.pack p).state = .absent →
    ∃ t, exec (.packPresenceRise p) s = .next t ∧
    t.pack p = { state := .ident, seated := true, gauge := none, failCount := 0, cause := none, accum := 0, lastPoll := none,
                 low := false, critical := false, pollTimer := some (if s.psq.state = .run then 250 else 4000) } ∧
    (s.pollsOf p = [] → t.pbc.ops = s.pbc.ops ++ [⟨p, .poll, false⟩]) ∧
    (s.pollsOf p ≠ [] → t.pbc.ops = s.pbc.ops) ∧
    (s.lnk.canStart = false → s.psq.held = none → s.lnk.notices.length ≤ 12 →
      s.PacksNoticed t ((s.packRises p).Moves .pack)) ∧
    (t.cbu.budget.packs.get p).iSet = 0 ∧ (t.cbu.budget.packs.get p).iApp = 0 ∧ t.pbc.connected.get p = false) ∧
  (∀ (p : PackId) (s : State), s.hasPack p = true → (s.pack p).state ≠ .absent →
    ∃ t, exec (.packPresenceFall p) s = .next t ∧
    t.pack p = { state := .absent, seated := false, gauge := none, failCount := 0, cause := none, accum := (s.pack p).accum,
                 lastPoll := none, low := false, critical := false, pollTimer := none } ∧
    t.pbc.ops = (if s.pbc.busTimer.isSome then
        (s.pbc.ops.take 1).map (fun o => if o.pack = p then { o with gone := true } else o) ++
          (s.pbc.ops.drop 1).filter (fun o => o.pack != p)
      else s.pbc.ops.filter (fun o => o.pack != p)) ∧
    (s.lnk.canStart = false → t.lnk.replies = s.lnk.replies ++
      ((if s.pbc.busTimer.isSome then s.pbc.ops.drop 1 else s.pbc.ops).filter (fun o => o.pack == p)).filterMap (fun o =>
        match o.kind with
        | .rawRead _ tag => some ⟨0x87, tag, [6]⟩
        | .poll => none)) ∧
    (s.lnk.canStart = false → s.psq.held = none → s.lnk.notices.length ≤ 12 →
      s.PacksNoticed t ((s.packFalls p).Moves .pack)) ∧
    (t.cbu.budget.packs.get p).iSet = 0 ∧ (t.cbu.budget.packs.get p).iApp = 0 ∧ t.pbc.connected.get p = false) ∧
  (∀ (p : PackId) (s : State),
    (s.hasPack p = false ∨ (s.pack p).state ≠ .absent → exec (.packPresenceRise p) s = .next s) ∧
    (s.hasPack p = false ∨ (s.pack p).state = .absent → exec (.packPresenceFall p) s = .next s))

/-- A running poll timer's expiry restarts it with the period that applies and lists a poll, unless one of that pack is listed; an
entry that joins an empty list starts, and so does a head that is not on the bus (R26 to R29). -/
def Obligations.PollTimerAndBusStart : Prop :=
  (∀ (p : PackId) (s : State), (s.pack p).pollTimer.isSome = true →
    exec (.pollTimerExpiry p) s = .next (
      let period : Option Nat :=
        if (s.pack p).state = .absent then none
        else if (s.pack p).state = .halted ∧ (s.pack p).cause = some .gaugeSilent then some 4000
        else if s.psq.state = .run then some 250
        else if (s.pack p).state = .charging then some 1000
        else some 4000
      let timed := s.setPack p { s.pack p with pollTimer := period }
      if s.pollsOf p ≠ [] then timed
      else if s.pbc.ops ≠ [] then timed.setPbc { timed.pbc with ops := s.pbc.ops ++ [⟨p, .poll, false⟩] }
      else (timed.setPbc { timed.pbc with ops := [⟨p, .poll, false⟩], busTimer := some 35 }).emit [.packBusRead p 0 7])) ∧
  (∀ (p : PackId) (s : State), (s.pack p).pollTimer = none → exec (.pollTimerExpiry p) s = .next s) ∧
  (∀ (o : BusOp) (rest : List BusOp) (s : State), s.pbc.busTimer = none → s.pbc.ops = o :: rest →
    exec .busOperationStart s = .next ((s.setPbc { s.pbc with busTimer := some 35 }).emit [match o.kind with
      | .poll => .packBusRead o.pack 0 7
      | .rawRead f _ => .packBusRead o.pack f 1])) ∧
  (∀ s : State, s.pbc.busTimer.isSome = true ∨ s.pbc.ops = [] → exec .busOperationStart s = .next s)

/-- A good response to the poll on the bus stores the clamped fields, clears the failure count, adds to the accumulator, sets
the flags by their thresholds and the pack's state by its own flags; the operation leaves the list. A response that is not the
current operation's, fails its check or has the wrong count changes nothing, and the result of a poll whose pack has gone
touches no record. A poll that newly sets the low flag is the PACK_LOW wake source; one that newly sets the critical flag in
STANDBY, with no contract power and the other pack spent too, reports CRITICAL_OFF and takes the system to OFF. The first poll
after a rise raises neither. Every pack whose notified fields the poll changes, or that a decision of the event moves and a
later one moves back, has one PACK notice of its values after the event (R25 to R27, R30, R34, R37, R41, R47, R147). That a
pack's halt is reported before these events is the model's reading (notes/assumptions/11.md). -/
def Obligations.PollCompletes : Prop :=
  (∀ (p : PackId) (w0 w1 w2 w3 w4 w5 w6 : Word16) (rest : List BusOp) (s : State),
    s.pbc.busTimer.isSome = true → s.pbc.ops = ⟨p, .poll, false⟩ :: rest → (s.pack p).state ≠ .absent →
    ∃ t, exec (.pollResponse p true true [w0, w1, w2, w3, w4, w5, w6]) s = .next t ∧
    (t.pack p).gauge = some ⟨min 25000 w0.toNat, max (-15000) (min 15000 w1.toInt), max (-400) (min 1500 w2.toInt),
      min 100 w3.toNat, min 8000 w4.toNat, min 25000 w5.toNat,
      w6.getLsbD 0, w6.getLsbD 1, w6.getLsbD 2, w6.getLsbD 3⟩ ∧
    (t.pack p).failCount = 0 ∧ (t.pack p).lastPoll = some s.time ∧
    (t.pack p).accum = (match (s.pack p).lastPoll with
      | none => (s.pack p).accum
      | some earlier => max (-140737488355327) (min 140737488355327 ((s.pack p).accum +
          max (-15000) (min 15000 w1.toInt) * ((max 1 (min 5000 (s.time - earlier)) : Nat) : Int)))) ∧
    ((t.pack p).low = true ↔ ((min 100 w3.toNat : Nat) : Int) ≤
      s.setting .packLowPct + (if (s.pack p).low then 2 else 0)) ∧
    ((t.pack p).critical = true ↔ ((min 100 w3.toNat : Nat) : Int) ≤
      s.setting .packCritPct + (if (s.pack p).critical then 1 else 0)) ∧
    (if (s.pack p).state = .halted ∧ (s.pack p).cause = some .gaugeSilent then
        (t.pack p).state = .ident ∧ (t.pack p).cause = none
      else if w6.getLsbD 2 then (t.pack p).state = .halted ∧ (t.pack p).cause = some .packOvervolt
      else if w6.getLsbD 1 then (t.pack p).state = .halted ∧ (t.pack p).cause = some .packHot
      else (t.pack p).state.working = true ∧ (t.pack p).cause = none) ∧
    t.pbc.ops = rest ∧ t.pbc.busTimer = (if rest = [] then none else some 35) ∧
    (s.lnk.canStart = false → s.psq.held = none → s.lnk.notices.length ≤ 8 → s.ScansInRun →
      let stored := s.finishHead.pollStored p [w0, w1, w2, w3, w4, w5, w6]
      s.PacksNoticed t (fun q => PackDiffers (s.pack q) (stored.pack q) ∨
        (((stored.pack p).state ≠ (s.pack p).state ∨ stored.eligible p ≠ s.eligible p ∨
          (stored.pack p).dischargeable ≠ (s.pack p).dischargeable) ∧ stored.Moves .pack q))) ∧
    (s.psq.held = none →
      let rc : Nat := min 100 w3.toNat
      let lowEvent : Prop := (s.pack p).gauge.isSome = true ∧ (s.pack p).low = false ∧ (rc : Int) ≤ s.setting .packLowPct
      let critEvent : Prop := (s.pack p).gauge.isSome = true ∧ (s.pack p).critical = false ∧ (rc : Int) ≤ s.setting .packCritPct
      let spent : Prop := s.psq.state = .standby ∧ s.adn.pContract = 0 ∧
        ((s.pack (otherPack p)).dischargeable = false ∨
          ((s.pack (otherPack p)).relCharge : Int) ≤ s.setting .packCritPct)
      (¬ (critEvent ∧ spent) → lowEvent → t.psq = (s.wakeSource .packLow).psq) ∧
      (¬ (critEvent ∧ spent) → ¬ lowEvent → t.psq = s.psq) ∧
      (critEvent ∧ spent → s.psq.wakeList = [] →
        t.psq = { s.psq with
          state := .off, mainOn := false, coreOn := false, hrst := true, step := none, stepTimer := none, startKind := none,
          downTarget := none, downCause := some .criticalOff, restartOrigin := none, lidDelay := none } ∧
        ∃ n, t.flm.log.getLast? = some ⟨n, .criticalOff, .pack p, some rc, .standby⟩))) ∧
  (∀ (p : PackId) (current checkOk : Bool) (words : List Word16) (s : State),
    current = false ∨ checkOk = false ∨ words.length ≠ 7 → exec (.pollResponse p current checkOk words) s = .next s) ∧
  (∀ (p : PackId) (words : List Word16) (rest : List BusOp) (s : State),
    s.pbc.busTimer.isSome = true → s.pbc.ops = ⟨p, .poll, true⟩ :: rest → words.length = 7 →
    exec (.pollResponse p true true words) s = .next s.finishHead ∧ exec (.pollTimeout p) s = .next s.finishHead)

/-- A poll's timeout raises the failure count up to 3; the third failure in a row halts the pack as GAUGE_SILENT, isolates it
and marks its source; before that the record stands and no notice is sent. The halt's event sends the PACK notices of the
packs it changes, or moves and moves back (R31 to R34, R39, R47). -/
def Obligations.PollFails : Prop :=
  (∀ (p : PackId) (rest : List BusOp) (s : State),
    s.pbc.busTimer.isSome = true → s.pbc.ops = ⟨p, .poll, false⟩ :: rest → (s.pack p).state ≠ .absent →
    (s.pack p).failCount ≠ 2 ∨ ((s.pack p).state = .halted ∧ (s.pack p).cause = some .gaugeSilent) →
    ∃ t, exec (.pollTimeout p) s = .next t ∧
    t.pack p = { s.pack p with failCount := min 3 ((s.pack p).failCount + 1) } ∧
    t.pbc.ops = rest ∧ t.flm = s.flm ∧ t.cbu = s.cbu ∧ t.lnk = s.lnk) ∧
  (∀ (p : PackId) (rest : List BusOp) (s : State),
    s.pbc.busTimer.isSome = true → s.pbc.ops = ⟨p, .poll, false⟩ :: rest → (s.pack p).state ≠ .absent →
    (s.pack p).failCount = 2 → ¬ ((s.pack p).state = .halted ∧ (s.pack p).cause = some .gaugeSilent) →
    ∃ t, exec (.pollTimeout p) s = .next t ∧
    (t.pack p).state = .halted ∧ (t.pack p).cause = some .gaugeSilent ∧ (t.pack p).failCount = 3 ∧
    (t.pack p).gauge = (s.pack p).gauge ∧ (t.pack p).accum = (s.pack p).accum ∧ (t.pack p).lastPoll = (s.pack p).lastPoll ∧
    (s.flm.marks.length = 31 → t.flm.mark (.pack p) = some .packSilent) ∧
    (s.lnk.canStart = false → s.psq.held = none → s.lnk.notices.length ≤ 12 →
      let halted := s.finishHead.setPack p { s.pack p with failCount := 3, state := .halted, cause := some .gaugeSilent }
      s.PacksNoticed t (fun q => (s.pack p).state ≠ .halted ∧ halted.Moves .pack q)) ∧
    ((s.pack p).state ≠ .halted →
      (t.cbu.budget.packs.get p).iSet = 0 ∧ (t.cbu.budget.packs.get p).iApp = 0 ∧ t.pbc.connected.get p = false)) ∧
  (∀ (p : PackId) (s : State), s.pollOnBus p = none →
    exec (.pollTimeout p) s = .next s ∧ ∀ current checkOk words, exec (.pollResponse p current checkOk words) s = .next s)

/-- PACK_RAW_READ's tests in their order, its acceptance without a reply, and how the read is answered when its operation ends
(R43, R44). -/
def Obligations.RawReads : Prop :=
  (∀ (tag pack field : Byte) (s : State), s.hasRoom →
    exec (.packRawRead tag [pack, field]) s = .next (
      if 1 < pack.toNat ∨ 15 < field.toNat then (s.answered 0x07 tag 3 []).close s
      else
        let p : PackId := if pack = 0 then .a else .b
        if s.hasPack p = false ∨ (s.pack p).state = .absent then (s.answered 0x07 tag 6 []).close s
        else if 2 ≤ s.inFlight.length then (s.answered 0x07 tag 7 []).close s
        else if s.pbc.ops ≠ [] then s.setPbc { s.pbc with ops := s.pbc.ops ++ [⟨p, .rawRead field.toNat tag, false⟩] }
        else (s.setPbc { s.pbc with ops := [⟨p, .rawRead field.toNat tag, false⟩], busTimer := some 35 }).emit
          [.packBusRead p field.toNat 1])) ∧
  (∀ (p : PackId) (field : Nat) (tag : Byte) (gone : Bool) (rest : List BusOp) (w : Word16) (s : State),
    s.pbc.busTimer.isSome = true → s.pbc.ops = ⟨p, .rawRead field tag, gone⟩ :: rest →
    exec (.rawReadResponse p true true [w]) s = .next ((if gone then s.finishHead.answered 0x07 tag 6 []
      else s.finishHead.answered 0x07 tag 0
        [BitVec.ofNat 8 (packCode p), BitVec.ofNat 8 field, BitVec.ofNat 8 (w.toNat % 256),
         BitVec.ofNat 8 (w.toNat / 256)]).close s) ∧
    exec (.rawReadTimeout p) s = .next ((s.finishHead.answered 0x07 tag (if gone then 6 else 9) []).close s)) ∧
  (∀ (p : PackId) (current checkOk : Bool) (words : List Word16) (s : State),
    s.rawOnBus p = none ∨ current = false ∨ checkOk = false ∨ words.length ≠ 1 →
      exec (.rawReadResponse p current checkOk words) s = .next s) ∧
  (∀ (p : PackId) (s : State), s.rawOnBus p = none → exec (.rawReadTimeout p) s = .next s)

/-! ### Host requests -/

/-- The tests before a request reaches its block: with the reply queue's count at 8 it is lost; a wrong LEN is answered BAD_LENGTH;
a KIND that names no request is answered UNKNOWN_KIND, outside 0x01 to 0x3F with reply kind 0x80 (R171, R172, R189). -/
def Obligations.RequestTests : Prop :=
  (∀ (c : Instr) (kind : Nat) (tag : Byte) (payload : List Byte) (s : State), requestOf c = some (kind, tag, payload) →
    (8 ≤ s.replyCount → exec c s = .next s) ∧
    (s.hasRoom → lengthFits kind payload = false → exec c s = .next ((s.answered kind tag 2 []).close s))) ∧
  (∀ (kind tag : Byte) (payload : List Byte) (s : State), kind = 0 ∨ 0x1A < kind.toNat →
    (8 ≤ s.replyCount → exec (.unknownKind kind tag payload) s = .next s) ∧
    (s.hasRoom → exec (.unknownKind kind tag payload) s = .next
      ((s.answered (if 1 ≤ kind.toNat ∧ kind.toNat ≤ 0x3F then kind.toNat else 0) tag 4 []).close s)))

/-- The reports: each is answered in its event with its content, field by field in the layout the manual gives, and changes nothing
but the reply queue; a section or a pack that is none is answered BAD_ARGUMENT, a slot the board lacks ABSENT. An absent field is 0
with its presence bit clear (R42, R69, R93, R115, R164, R165, R186 to R189, R191). -/
def Obligations.ReportsAnswer : Prop :=
  (∀ (tag : Byte) (s : State), s.hasRoom →
    exec (.identify tag []) s = .next ((s.answered 0x01 tag 0
      ([0x40, 0x06, 1, BitVec.ofNat 8 (strapsByte s.sst.straps), BitVec.ofNat 8 (resetKindCode s.sst.resetKind),
        BitVec.ofNat 8 s.sst.pinCount, BitVec.ofNat 8 s.sst.softCount] ++ leBytes 4 s.time ++ [36])).close s) ∧
    exec (.powerReport tag []) s = .next ((s.answered 0x04 tag 0
      (let b := s.cbu.budget
       let contract : List Byte := match s.adn.record with
         | none => [0, 0, 0, 0, 0, 0, 0, 0]
         | some c => leBytes 1 (c.offerIndex.getD 0 + (if c.source = .legacy then 128 else 0) : Nat) ++ leBytes 2 c.voltage ++
             leBytes 2 c.current ++ leBytes 3 c.score
       let share : PackBudget → List Byte := fun k => (match k.inC with
         | none => [0, 0, 0, 0, 0, 0, 0]
         | some c => leBytes 2 c.vC ++ leBytes 2 c.ireq ++ leBytes 3 c.share) ++ leBytes 2 k.iSet ++ leBytes 2 k.iApp
       leBytes 1 (b.sample.isSome.toNat + 2 * b.overdraw.isSome.toNat + 4 * b.packs.a.inC.isSome.toNat +
           8 * b.packs.b.inC.isSome.toNat + 16 * s.adn.record.isSome.toNat +
           32 * (s.adn.record.bind Contract.offerIndex).isSome.toNat : Nat) ++
         leBytes 1 (triggerCode b.trigger) ++
         leBytes 1 (modeCode b.mode + 8 * b.connected.a.toNat + 16 * b.connected.b.toNat + 32 * b.latch.toNat +
           64 * b.packs.a.eligible.toNat + 128 * b.packs.b.eligible.toNat : Nat) ++
         leBytes 1 (packStateCode (s.pack .a).state + 16 * packStateCode (s.pack .b).state : Nat) ++
         leBytes 2 ((b.sample.map PowerSample.vBus).getD 0 : Nat) ++ leBytes 2 ((b.sample.map PowerSample.iSys).getD 0 : Nat) ++
         leBytes 3 b.pContract ++ leBytes 2 b.d ++ leBytes 3 (b.g.getD 0) ++ leBytes 3 b.h ++ leBytes 3 b.hd ++
         leBytes 2 (b.overdraw.getD 0 : Nat) ++ share b.packs.a ++ share b.packs.b ++ contract)).close s) ∧
    exec (.retainedRead tag []) s = .next ((s.answered 0x18 tag 0
      (let r := s.flm.retained
       [BitVec.ofNat 8 (r.protect.toNat + 2 * r.escalate.toNat + 4 * r.urgent.toNat + 8 * r.uCopy.toNat + 16 * r.mCopy.toNat +
          32 * r.lastProtect.isSome.toNat),
        BitVec.ofNat 8 ((r.lastProtect.map protectCauseCode).getD 0), BitVec.ofNat 8 r.escalations])).close s) ∧
    (s.mxs.keys.length = 144 → s.mxs.lines.length = 18 → ∃ content : List Byte,
      exec (.keyStateRead tag []) s = .next ((s.answered 0x0E tag 0 content).close s) ∧
      (∀ c < 144, (content.getD (c / 8) 0).getLsbD (c % 8) = (s.mxs.key c).debounced) ∧
      (∀ l < 24, (content.getD (18 + l / 8) 0).getLsbD (l % 8) = (decide (l < 18) && (s.mxs.line l).isolated)) ∧
      content.drop 21 = leBytes 1 (mxsCondCode s.mxs.cond + 4 * s.mxs.enable.toNat : Nat) ++
        leBytes 1 (s.mxs.queue.length + 128 * s.mxs.stalled.toNat : Nat) ++ leBytes 1 s.mxs.pending.length ++
        leBytes 1 (s.mxs.keys.countP KeyRec.resync) ++ leBytes 2 s.mxs.passCount)) ∧
  (∀ (tag b0 b1 b2 b3 : Byte) (s : State), s.hasRoom →
    exec (.faultLogRead tag [b0, b1, b2, b3]) s = .next ((s.answered 0x15 tag 0
      (let recs := (s.flm.log.filter (fun r =>
          decide (b0.toNat + 256 * b1.toNat + 65536 * b2.toNat + 16777216 * b3.toNat ≤ r.seq))).take 4
       [BitVec.ofNat 8 s.flm.log.length] ++ leBytes 4 s.flm.counter ++ [BitVec.ofNat 8 recs.length] ++
         recs.flatMap (fun r => leBytes 4 r.seq ++ leBytes 1 (classCode (faultClass r.cause) + 128 * r.detail.isSome.toNat : Nat) ++
           [BitVec.ofNat 8 (causeCode r.cause), BitVec.ofNat 8 (sourceCode r.source)] ++ leBytes 2 (r.detail.getD 0) ++
           [BitVec.ofNat 8 (sysStateCode r.sysState)]))).close s)) ∧
  (∀ (tag pack : Byte) (s : State), s.hasRoom →
    exec (.packReport tag [pack]) s = .next ((
      let p : PackId := if pack = 0 then .a else .b
      let k := s.pack p
      let field : (Gauge → Int) → Int := fun f => (k.gauge.map f).getD 0
      if 1 < pack.toNat then s.answered 0x05 tag 3 []
      else if s.hasPack p = false then s.answered 0x05 tag 6 []
      else s.answered 0x05 tag 0
        ([pack, BitVec.ofNat 8 (packStateCode k.state),
          BitVec.ofNat 8 (if k.state = .halted then haltCauseCode k.cause else 0),
          BitVec.ofNat 8 (k.seated.toNat + 2 * k.gauge.isSome.toNat + 4 * k.lastPoll.isSome.toNat + 8 * k.low.toNat +
            16 * k.critical.toNat + 32 * (s.pbc.connected.get p).toNat)] ++
          leBytes 2 (field (fun g => g.voltage)) ++ leBytes 2 (field (fun g => g.current)) ++
          leBytes 2 (field (fun g => g.temperature)) ++ leBytes 1 (field (fun g => g.relCharge)) ++
          leBytes 2 (field (fun g => g.ireq)) ++ leBytes 2 (field (fun g => g.reqVoltage)) ++
          leBytes 1 (field (fun g => (g.full.toNat + 2 * g.overTemp.toNat + 4 * g.overVoltage.toNat +
            8 * g.terminateDischarge.toNat : Nat))) ++
          leBytes 1 k.failCount ++ leBytes 6 k.accum ++ leBytes 4 (Int.tdiv k.accum 3600000) ++
          leBytes 2 ((k.lastPoll.map (fun earlier => min 65535 (s.time - earlier))).getD 0 : Nat) ++
          leBytes 2 (s.cbu.budget.packs.get p).iSet ++ leBytes 2 (s.cbu.budget.packs.get p).iApp)).close s)) ∧
  (∀ (tag sec : Byte) (s : State), s.hasRoom → s.fnc.curveOpen.length ≤ 8 → s.fnc.curveClosed.length ≤ 8 →
    exec (.thermalReport tag [sec]) s = .next ((
      let sensor : Fin 4 → List Byte := fun n =>
        let k := s.thm.slots.get n
        leBytes 1 (sensorCondCode k.cond + 4 * (s.included n).toNat + 8 * k.value.isSome.toNat +
            16 * (k.mark.map sensorCauseCode).getD 0 : Nat) ++
          leBytes 1 (k.invalid + 4 * k.valid : Nat) ++ leBytes 2 (k.value.getD 0)
      let aggregate : List Byte := match s.thm.aggregate with
        | .valid v n => leBytes 1 (4 * n.val : Nat) ++ leBytes 2 v
        | .invalid n c => leBytes 1 (1 + 4 * n.val + 16 * sensorCauseCode c : Nat) ++ [0, 0]
        | .pending => [2, 0, 0]
      let fan : FanId → List Byte := fun f =>
        let k := s.fnc.fans.get f
        if s.hasFan f then
          leBytes 1 (1 + 2 * (decide (k.mode = .manual)).toNat + 4 * k.degraded.toNat + 8 * k.computed.isSome.toNat +
              16 * k.rpm.isSome.toNat : Nat) ++
            leBytes 1 k.manual ++ leBytes 1 (k.computed.getD 0 : Nat) ++ leBytes 1 k.applied ++ leBytes 2 (k.rpm.getD 0 : Nat) ++
            leBytes 1 (k.stall + 4 * k.grace + 16 * k.recovery : Nat)
        else [0, 0, 0, 0, 0, 0, 0]
      let curve : List CurvePoint → List Byte := fun pts => leBytes 1 pts.length ++
        pts.flatMap (fun q => leBytes 2 q.temp ++ leBytes 1 q.duty) ++ List.replicate (3 * (8 - pts.length)) 0
      if sec = 0 then s.answered 0x0A tag 0 (0 :: (sensor 0 ++ sensor 1 ++ sensor 2 ++ sensor 3 ++ aggregate ++
        leBytes 2 s.thm.d ++ leBytes 1 (s.thm.highArm.toNat + 2 * s.thm.critArm.toNat + 4 * s.thm.blind.toNat : Nat)))
      else if sec = 1 then s.answered 0x0A tag 0 (1 :: (fan .f0 ++ fan .f1 ++ leBytes 1 s.fnc.prevBase ++
        leBytes 1 s.fnc.boost ++ leBytes 1 (s.fnc.quiet.toNat + 2 * s.psq.lidConfirmed.toNat : Nat)))
      else if sec = 2 then s.answered 0x0A tag 0 (2 :: curve s.fnc.curveOpen)
      else if sec = 3 then s.answered 0x0A tag 0 (3 :: curve s.fnc.curveClosed)
      else s.answered 0x0A tag 3 []).close s))

/-- SETTING_READ: an identifier that names no setting is answered UNKNOWN_SETTING, PACK_WEIGHT_B and PACK_IMAX_B on a one-pack board
ABSENT with the value 0, every other OK with the identifier and the stored value; nothing else changes (R181). -/
def Obligations.SettingReads : Prop :=
  ∀ (tag lo hi : Byte) (s : State), s.hasRoom →
    exec (.settingRead tag [lo, hi]) s = .next ((
      match allSettings.find? (fun i => settingCode i == lo.toNat + 256 * hi.toNat) with
      | none => s.answered 0x02 tag 5 []
      | some i =>
        if (i = SettingId.packWeightB ∨ i = SettingId.packImaxB) ∧ s.sst.straps.twoPacks = false then
          s.answered 0x02 tag 6 [lo, hi, 0, 0, 0, 0]
        else s.answered 0x02 tag 0 ([lo, hi] ++ leBytes 4 (s.setting i))).close s)

/-- SETTING_WRITE: what is answered and stored, and that the stored value is handed to its readers; the value stored is the
written one brought into the range and held off its partner, and of a wake mask the six sources with BUTTON. The hand-over,
setting by setting: the CBU's evaluate; those of the contract power have the record and P_contract made again; the thermal
ones have D, the fold and the thresholds made again; the fans' have the duty computed; the scan interval restarts a running
pass timer; the key queue thresholds test the stall and offer the head where they end it; the wake mask decides the scanner's
condition; a lid action other than AUTO_STANDBY cancels the lid timer; the watchdog period starts or stops the watchdog; every
other setting acts from its reader's next use (R19, R66, R80, R85, R98, R109, R144, R162, R182, R183, section 5.12). That the
PACK notices of the evaluation for a changed P_contract stand before the ADAPTER notice is the model's choice
(notes/assumptions/19.md), and the order of what a refold reports and hands on, with its one evaluation, is the model's
reading (9.md, 11.md). -/
def Obligations.SettingWrites : Prop :=
  (∀ (tag lo hi b0 b1 b2 b3 : Byte) (s : State), s.hasRoom →
    exec (.settingWrite tag [lo, hi, b0, b1, b2, b3]) s = .next ((
      match allSettings.find? (fun i => settingCode i == lo.toNat + 256 * hi.toNat) with
      | none => s.answered 0x03 tag 5 []
      | some i =>
        if (i = SettingId.packWeightB ∨ i = SettingId.packImaxB) ∧ s.sst.straps.twoPacks = false then
          s.answered 0x03 tag 6 [lo, hi, 0, 0, 0, 0]
        else
          let v := leInt [b0, b1, b2, b3]
          let stored := storedValue s.sst.settings i v
          ((s.setSst { s.sst with settings := s.sst.settings.set i stored }).answered 0x03 tag
            (if stored = v then 0 else 1) ([lo, hi] ++ leBytes 4 stored)).handSetting i).close s)) ∧
  (∀ (c : Settings) (i : SettingId) (v : Int), i ≠ .wakeMask →
    storedValue c i v =
      let w := max (settingRange i).1 (min (settingRange i).2 v)
      match i with
      | .keyQUpper => max w (c.keyQLower + 1)
      | .keyQLower => min w (c.keyQUpper - 1)
      | .derateStart => min w (c.derateEnd - 10)
      | .derateEnd => max w (c.derateStart + 10)
      | .thermUrgent => min w (c.thermCrit - 20)
      | .thermCrit => max w (c.thermUrgent + 20)
      | .adapterVMin => min w c.adapterVMax
      | .adapterVMax => max w c.adapterVMin
      | _ => w) ∧
  (∀ (c : Settings) (v : Int), 0 ≤ storedValue c .wakeMask v ∧ storedValue c .wakeMask v < 64 ∧
    storedValue c .wakeMask v % 2 = 1 ∧ storedValue c .wakeMask v / 2 = v % 64 / 2) ∧
  (∀ (s : State) (i : SettingId),
    (i = .reserveMw ∨ i = .packWeightA ∨ i = .packWeightB ∨ i = .packImaxA ∨ i = .packImaxB ∨ i = .chargeLimit →
      s.handSetting i = s.trigger .setting) ∧
    (i = .efficiency ∨ i = .powerCapMw ∨ i = .legacyMw →
      let cap := s.settingN .powerCapMw
      let legacy := min (s.settingN .legacyMw) cap
      let record := s.adn.record.map (fun c =>
        if c.source = .legacy then { c with score := legacy, pContract := legacy, current := legacy * 1000 / c.voltage }
        else { c with
          score := min (c.voltage * c.current / 1000) cap
          pContract := min (c.voltage * c.current / 1000) cap * s.settingN .efficiency / 256 })
      let own := (record.map Contract.pContract).getD s.adn.pContract
      let kept := min s.adn.pContract own
      let power :=
        if s.adn.state = .contract ∨ s.adn.state = .legacy then own
        else if s.adn.state = .querying then kept
        else if s.adn.state = .selecting ∨ s.adn.state = .switching then
          (if record.isSome then min kept ((s.adn.outstanding.map s.pOffer).getD kept) else kept)
        else s.adn.pContract
      s.handSetting i =
        ((s.setAdn { s.adn with record := record, pContract := power }).handContract s).notifyAdapter s) ∧
    (i = .derateStart ∨ i = .derateEnd ∨ i = .thermUrgent ∨ i = .thermCrit ∨ i = .sensorInclude →
      s.handSetting i = s.recompute ∧ (s.handSetting i).thm.aggregate = s.fold ∧
      (s.handSetting i).thm.slots = s.thm.slots ∧ (s.handSetting i).thm.d = (s.handSetting i).derateFactor) ∧
    (i = .fanHyst ∨ i = .fanMinDuty ∨ i = .quietCap ∨ i = .quietOverrideTemp ∨ i = .boostStep →
      s.handSetting i = s.computeDuty) ∧
    (i = .scanIntervalUs → s.handSetting i =
      s.setMxs { s.mxs with passTimer := s.mxs.passTimer.map (fun _ => s.settingN .scanIntervalUs) }) ∧
    (i = .keyQUpper ∨ i = .keyQLower → s.handSetting i =
      if s.mxs.stalled = true ∧ s.mxs.queue.length ≤ s.settingN .keyQLower then
        (s.setMxs { s.mxs with stalled := false }).offerPending
      else s.setMxs { s.mxs with stalled := s.mxs.stalled || decide (s.settingN .keyQUpper ≤ s.mxs.queue.length) }) ∧
    (i = .wakeMask → s.handSetting i = s.mxsDecide ∧
      (s.handSetting i).mxs.cond = (if s.mxs.enable = true ∧ s.psq.lidConfirmed = false ∧ s.psq.state = .run then .scanning
        else if s.mxs.enable = true ∧ s.psq.lidConfirmed = false ∧ s.psq.state = .standby ∧
          (s.settingN .wakeMask).testBit 2 = true then .activity
        else .suspended)) ∧
    (i = .lidAction → s.handSetting i =
      s.setPsq { s.psq with lidDelay := if s.setting .lidAction = 2 then s.psq.lidDelay else none }) ∧
    (i = .watchdogS → s.handSetting i = s.setFlm { s.flm with
      watchdog := if s.settingN .watchdogS = 0 then none
        else if s.psq.state = .run then some (s.settingN .watchdogS * 1000) else s.flm.watchdog }) ∧
    (i ∈ [SettingId.adapterVMin, .adapterVMax, .packLowPct, .packCritPct, .sensorOffset0, .sensorOffset1, .sensorOffset2,
        .sensorOffset3, .fanStallRpm, .debouncePasses, .bootMinPct, .buttonHoldMs, .lidDelayS, .advisoryNotices] →
      s.handSetting i = s))

/-- PACK_ACCUM_CLEAR and CHARGE_CONTROL: their refusals, the accumulator and the time of the last poll cleared, the enable
stored with an evaluation where it changes; a pack turned off takes no charge current from that event on (R46, R60, R67). That
pack A's writes and PACK notice stand before pack B's is the model's (notes/assumptions/11.md, 19.md). -/
def Obligations.PackRequests : Prop :=
  (∀ (tag pack : Byte) (s : State), s.hasRoom →
    exec (.packAccumClear tag [pack]) s = .next ((
      if 1 < pack.toNat then s.answered 0x06 tag 3 []
      else
        let p : PackId := if pack = 0 then .a else .b
        if s.hasPack p = false then s.answered 0x06 tag 6 []
        else (s.setPack p { s.pack p with accum := 0, lastPoll := none }).answered 0x06 tag 0 []).close s)) ∧
  (∀ (tag pack on : Byte) (s : State), s.hasRoom →
    exec (.chargeControl tag [pack, on]) s = .next ((
      if 1 < pack.toNat ∨ 1 < on.toNat then s.answered 0x08 tag 3 []
      else
        let p : PackId := if pack = 0 then .a else .b
        if s.hasPack p = false then s.answered 0x08 tag 6 []
        else if s.cbu.enable.get p = decide (on = 1) then s.answered 0x08 tag 0 []
        else ((s.answered 0x08 tag 0 []).setCbu
          { s.cbu with enable := s.cbu.enable.set p (decide (on = 1)) }).trigger .control).close s)) ∧
  (∀ (tag pack : Byte) (p : PackId) (s : State), s.hasRoom → pack.toNat = packCode p → s.hasPack p = true →
    s.cbu.enable.get p = true → ∃ t, exec (.chargeControl tag [pack, 0]) s = .next t ∧
    t.cbu.enable.get p = false ∧ (t.cbu.budget.packs.get p).iSet = 0 ∧ (t.cbu.budget.packs.get p).iApp = 0 ∧
    (t.pack p).state ≠ .charging)

/-- The table writes: FAN_CURVE_WRITE, HOTKEY_WINDOW_WRITE, ACTION_WRITE and ARBITER_WRITE refuse what the manual refuses and
replace their table or entry whole; a curve in use is computed with at once, and a new window is offered the pending head (R84,
R85, R121, R123, R175). -/
def Obligations.TableWrites : Prop :=
  (∀ (tag table count : Byte) (rest : List Byte) (s : State), s.hasRoom → rest.length = 3 * count.toNat →
    let pts := curvePoints (table :: count :: rest) 2 count.toNat
    (table.toNat ≤ 1 ∧ 2 ≤ count.toNat ∧ count.toNat ≤ 8 ∧
        (∀ q ∈ pts, -400 ≤ q.temp ∧ q.temp ≤ 1500 ∧ q.duty ≤ 100) ∧
        pts.Pairwise (fun a b => a.temp < b.temp ∧ a.duty ≤ b.duty) →
      exec (.fanCurveWrite tag (table :: count :: rest)) s = .next (
        let written := (s.setFnc (if table = 1 then { s.fnc with curveClosed := pts } else { s.fnc with curveOpen := pts })).answered
          0x0B tag 0 []
        (if s.psq.lidConfirmed = decide (table = 1) then written.computeDuty else written).close s)) ∧
    (1 < table.toNat ∨ count.toNat < 2 ∨ 8 < count.toNat ∨
        (∃ q ∈ pts, q.temp < -400 ∨ 1500 < q.temp ∨ 100 < q.duty) ∨
        ¬ pts.Pairwise (fun a b => a.temp < b.temp ∧ a.duty ≤ b.duty) →
      exec (.fanCurveWrite tag (table :: count :: rest)) s = .next ((s.answered 0x0B tag 3 []).close s))) ∧
  (∀ (tag n enabled base mask translation consume : Byte) (s : State), s.hasRoom →
    exec (.hotkeyWindowWrite tag [n, enabled, base, mask, translation, consume]) s = .next (
      let size := 256 - mask.toNat
      if 5 < n.toNat ∨ 1 < enabled.toNat ∨ 1 < consume.toNat ∨
          mask ∉ [(0x80 : Byte), 0xC0, 0xE0, 0xF0, 0xF8, 0xFC, 0xFE, 0xFF] ∨
          63 < translation.toNat / size * size + size - 1 then (s.answered 0x0F tag 3 []).close s
      else if enabled = 1 ∧ ∃ k ∈ List.range 6, k ≠ n.toNat ∧ (s.hkm.windows.getD k .initial).enabled = true ∧
          base.toNat / max size (256 - (s.hkm.windows.getD k .initial).mask) =
            (s.hkm.windows.getD k .initial).base / max size (256 - (s.hkm.windows.getD k .initial).mask) then
        (s.answered 0x0F tag 10 []).close s
      else
        let w : Window := ⟨decide (enabled = 1), base.toNat, mask.toNat, translation.toNat, decide (consume = 1)⟩
        (((s.setHkm { s.hkm with windows := s.hkm.windows.set n.toNat w }).answered 0x0F tag 0 []).offerPending).close s)) ∧
  (∀ (tag n kind argument : Byte) (s : State), s.hasRoom →
    exec (.actionWrite tag [n, kind, argument]) s = .next ((
      if 63 < n.toNat ∨ 4 < kind.toNat then s.answered 0x10 tag 3 []
      else
        let e : ActionEntry :=
          if kind = 0 then ⟨.nothing, 0⟩ else if kind = 1 then ⟨.fanBoostCycle, 0⟩ else if kind = 2 then ⟨.quietToggle, 0⟩
          else if kind = 3 then ⟨.chargeLimitCycle, 0⟩ else ⟨.hostNotice, argument.toNat⟩
        (s.setHkm { s.hkm with actions := s.hkm.actions.set n.toNat e }).answered 0x10 tag 0 []).close s)) ∧
  (∀ (tag : Byte) (payload : List Byte) (s : State), s.hasRoom → payload.length = 16 →
    exec (.arbiterWrite tag payload) s = .next ((
      if (∀ b ∈ payload, b.toNat ≤ 2) ∧ 0 ∈ payload ∧ 1 ∈ payload ∧ 2 ∈ payload then
        (s.setLnk { s.lnk with phases := payload.map (fun b =>
          if b = 0 then .reply else if b = 1 then .key else .notice) }).answered 0x11 tag 0 []
      else s.answered 0x11 tag 3 []).close s))

/-- FAN_CONTROL stores mode and manual duty, a duty above 100 as 100 with CLAMPED, and computes the duty; KEY_CONTROL takes every
line out of isolation, stores the enable and decides the scanner's condition. Where the scanner leaves SCANNING for SUSPENDED it runs
the suspension sweep: a release for each key expected down whose resync flag is clear, in code order, listed behind what the pending
list holds and flagging the keys it has no room for, or handed off at once to a key queue with room; then every key is taken to up,
with its consumed flag cleared (R94, R98, R105, R112, R114). -/
def Obligations.FanAndKeyControl : Prop :=
  (∀ (tag fan mode duty : Byte) (s : State), s.hasRoom →
    exec (.fanControl tag [fan, mode, duty]) s = .next ((
      if 1 < fan.toNat ∨ 1 < mode.toNat then s.answered 0x0C tag 3 []
      else
        let f : FanId := if fan = 0 then .f0 else .f1
        if s.hasFan f = false then s.answered 0x0C tag 6 []
        else
          let k : FanSlot :=
            { s.fnc.fans.get f with mode := if mode = 0 then .auto else .manual, manual := min 100 duty.toNat }
          ((s.setFnc { s.fnc with fans := s.fnc.fans.set f k }).answered
            0x0C tag (if 100 < duty.toNat then 1 else 0) [BitVec.ofNat 8 (min 100 duty.toNat)]).computeDuty).close s)) ∧
  (∀ (tag on : Byte) (s : State), s.hasRoom → 1 < on.toNat →
    exec (.keyControl tag [on]) s = .next ((s.answered 0x0D tag 3 []).close s)) ∧
  (∀ (tag on : Byte) (s : State), s.hasRoom → on.toNat ≤ 1 → s.mxs.lines.length = 18 → s.RailsFollow →
    ∃ t, exec (.keyControl tag [on]) s = .next t ∧
    t.mxs.enable = decide (on = 1) ∧ (∀ l ∈ t.mxs.lines, l.isolated = false) ∧
    t.mxs.cond = (if on = 1 ∧ s.psq.lidConfirmed = false ∧ s.psq.state = .run then .scanning
      else if on = 1 ∧ s.psq.lidConfirmed = false ∧ s.psq.state = .standby ∧ (s.settingN .wakeMask).testBit 2 = true then .activity
      else .suspended) ∧
    (t.mxs.cond = .suspended → t.mxs.passTimer = none ∨ s.mxs.cond = .suspended) ∧
    (s.mxs.cond = .scanning → t.mxs.cond = .suspended →
      (∀ k ∈ t.mxs.keys, k.raw = false ∧ k.debounced = false ∧ k.count = 0 ∧ k.ghost = false) ∧
      ∀ l ∈ t.mxs.lines, l.restore = 0)) ∧
  (∀ s : State, s.mxs.cond = .scanning → s.mxs.enable = false ∨ s.psq.lidConfirmed = true →
    s.mxsDecide = s.sweep.setMxs { s.sweep.mxs with cond := .suspended, passTimer := none }) ∧
  (∀ s : State, s.mxs.keys.length = 144 →
    let due := (List.range 144).filter (fun c => s.mxs.expected c && !(s.mxs.key c).resync)
    let release : Nat → Transition := fun c => ⟨c, false, s.mxs.passCount, .sweep⟩
    (s.mxs.pending ≠ [] →
      s.sweep.mxs.pending = s.mxs.pending ++ (due.take (16 - s.mxs.pending.length)).map release ∧
      s.sweep.mxs.queue = s.mxs.queue ∧
      ∀ c < 144, ((s.sweep.mxs.key c).resync = true ↔
        ((s.mxs.key c).resync = true ∨ c ∈ due.drop (16 - s.mxs.pending.length)))) ∧
    (s.mxs.pending = [] → s.mxs.stalled = false → s.mxs.queue.length + due.length < s.settingN .keyQUpper →
      s.sweep.mxs.pending = [] ∧
      s.sweep.mxs.queue = s.mxs.queue ++ (due.filter (fun c => !(s.mxs.key c).consumed)).map release) ∧
    (∀ k ∈ s.sweep.mxs.keys, k.raw = false ∧ k.debounced = false ∧ k.count = 0 ∧ k.ghost = false ∧ k.consumed = false) ∧
    s.sweep.mxs.lines = s.mxs.lines.map (fun l => { l with restore := 0 }))

/-- The requests of the PSQ, the FLM and the LNK, each with its reply and its one effect: WAKE_TIMER_SET, WATCHDOG_KICK,
FAULT_LOG_CLEAR, FAULT_DONE, RETAINED_CLEAR and PART_RESET; and POWER_STATE_REQUEST by system power state: accepted, it starts
SEQ_DOWN with its target and cause in the event; otherwise it is refused and changes nothing else (R139, R145, R146, R159,
R162, R164, R165, R178). That a disarmed wake timer holds 0 is the model's choice (notes/assumptions/16.md). So is the order
in which the blocks take a change of state (19.md); that a request from STANDBY waits while CORE good reads high is its
reading (10.md). -/
def Obligations.PowerAndFaultRequests : Prop :=
  (∀ (tag b0 b1 b2 b3 : Byte) (s : State), s.hasRoom →
    exec (.wakeTimerSet tag [b0, b1, b2, b3]) s = .next (
      let seconds := b0.toNat + 256 * b1.toNat + 65536 * b2.toNat + 16777216 * b3.toNat
      ((s.setPsq { s.psq with
          wakeArmed := decide (seconds ≠ 0), wakeRemaining := min 86400 seconds * 1000 }).answered 0x13 tag
        (if 86400 < seconds then 1 else 0) (leBytes 4 (min 86400 seconds : Nat))).close s)) ∧
  (∀ (tag : Byte) (s : State), s.hasRoom →
    exec (.watchdogKick tag []) s = .next (((s.setFlm { s.flm with
        watchdog := if s.psq.state = .run then
            (if s.settingN .watchdogS = 0 then none else some (s.settingN .watchdogS * 1000))
          else s.flm.watchdog }).answered 0x14 tag 0 []).close s) ∧
    exec (.faultLogClear tag []) s = .next (((s.setFlm { s.flm with log := [] }).answered 0x16 tag 0 []).close s) ∧
    exec (.faultDone tag []) s = .next ((
      if s.flm.u = false then s.answered 0x17 tag 0 []
      else
        let cleared := (s.setFlm { s.flm with u := false, m := false, held := 0, firstHeld := none }).answered 0x17 tag 0 []
        if 0 < s.flm.held ∧ s.setting .advisoryNotices = 1 then
          cleared.notice (.advisoryPending s.flm.held (s.flm.firstHeld.getD 0))
        else cleared).close s) ∧
    exec (.retainedClear tag []) s = .next (((s.setFlm { s.flm with
        retained := ⟨false, false, false, none, 0, false, false⟩ }).answered 0x19 tag 0 []).close s) ∧
    exec (.partReset tag []) s = .next (((s.setLnk { s.lnk with
        pendingReset := some (s.lnk.pendingReset.getD 100) }).answered 0x1A tag 0 []).close s)) ∧
  (∀ (tag target : Byte) (s : State), s.hasRoom →
     exec (.powerStateRequest tag [target]) s = .next ((
       if 2 < target.toNat then s.answered 0x12 tag 3 []
       else if s.psq.state = .run ∧ target = 0 then (s.answered 0x12 tag 0 []).enterSeqDown .standby .request none
       else if s.psq.state = .run ∧ target = 1 then (s.answered 0x12 tag 0 []).enterSeqDown .off .request none
       else if s.psq.state = .run ∧ target = 2 then (s.answered 0x12 tag 0 []).enterSeqDown .off .restart (some .request)
       else if s.psq.state = .standby ∧ target = 1 then (s.answered 0x12 tag 0 []).enterSeqDown .off .request none
       else s.answered 0x12 tag 8 []).close s))

/-- Received byte by byte from HUNT, the frame of a request is that request, the inter-byte timer started by its last byte; and fields written least significant byte first are
read back whole, unsigned and in two's complement (R169 to R171, R187, R189). -/
def Obligations.FramesAndFields : Prop :=
  (∀ (n v : Nat), v < 256 ^ n → leNat (leBytes n v) = v ∧ (leBytes n v).length = n) ∧
  (∀ (n : Nat) (v : Int), 1 ≤ n → -(256 ^ n : Int) ≤ 2 * v → 2 * v < (256 ^ n : Int) → leInt (leBytes n v) = v) ∧
  (∀ (c : Instr) (kind : Nat) (tag : Byte) (payload : List Byte) (s : State),
     requestOf c = some (kind, tag, payload) → payload.length ≤ 56 → s.lnk.framer.phase = .hunt →
     receiveAll s (frameBytes (BitVec.ofNat 8 kind) tag payload) =
       exec c (s.setLnk { s.lnk with framer := ⟨.hunt, [], [], 0, some 5⟩ }))

/-! ### Thermal sensing and fans -/

/-- A reading is judged and applied to its slot alone; the aggregate is folded again, the arm flags and the blind flag follow their
levels, and D is computed again. The evaluation of an event that changes D or newly sets the latch reads the new D, and the set
latch (R50, R73 to R82, R160). -/
def Obligations.SensorReadings : Prop :=
  (∀ (n : Fin 4) (value : Int) (s : State), -400 ≤ value → value ≤ 1500 →
    ∃ t, exec (.sensorReading n .normal value) s = .next t ∧
    t.thm.slots = s.thm.slots.set n (
      let w := max (-400) (min 1500 (value + s.setting (offsetSetting n)))
      let k := s.thm.slots.get n
      match k.cond with
      | .pending => { k with cond := .valid, value := some w, invalid := 0 }
      | .valid => { k with value := some w, invalid := 0 }
      | .marked => if k.valid < 2 then { k with value := some w, valid := k.valid + 1 } else ⟨.valid, some w, 0, 0, none⟩) ∧
    t.thm.aggregate = t.fold ∧ t.thm.d = t.derateFactor) ∧
  (∀ (n : Fin 4) (status : SensorStatus) (value : Int) (s : State), status ≠ .normal ∨ value < -400 ∨ 1500 < value →
    ∃ t, exec (.sensorReading n status value) s = .next t ∧
    t.thm.slots = s.thm.slots.set n (
      let k := s.thm.slots.get n
      if k.cond = .marked then { k with valid := 0 }
      else if k.invalid < 2 then { k with invalid := k.invalid + 1 }
      else { k with
        cond := .marked, invalid := 3, valid := 0,
        mark := some (match status with
          | .openWire => .openWire
          | .shorted => .shorted
          | .normal => .range) }) ∧
    t.thm.aggregate = t.fold ∧ t.thm.d = t.derateFactor) ∧
  (∀ (n : Fin 4) (status : SensorStatus) (value : Int) (s t : State), exec (.sensorReading n status value) s = .next t →
    (∀ v m, t.thm.aggregate = .valid v m →
      t.thm.highArm = (if s.thm.highArm then decide (v < s.setting .thermUrgent)
        else decide (v < s.setting .thermUrgent - 50)) ∧
      t.thm.critArm = (if s.thm.critArm then decide (v < s.setting .thermCrit)
        else decide (v < s.setting .thermUrgent)) ∧
      t.thm.blind = false ∧
      (s.LatchHolds → s.thm.critArm = true → s.setting .thermCrit ≤ v →
        t.flm.latch.thermCritical.isSome = true ∧
        (t.psq.state = .tripped ∨ (t.psq.state = .seqDown ∧ t.psq.downTarget = some .tripped)))) ∧
    (∀ m c, t.thm.aggregate = .invalid m c →
      t.thm.highArm = s.thm.highArm ∧ t.thm.critArm = s.thm.critArm ∧ t.thm.blind = true) ∧
    (t.thm.d ≠ s.thm.d → t.cbu.budget.d = t.thm.d) ∧
    (s.flm.latch.isSet = false → t.flm.latch.isSet = true →
      t.cbu.budget.latch = true ∧ t.cbu.budget.d = t.thm.d ∧ ∀ p, (t.cbu.budget.packs.get p).iApp = 0))

/-- The fold of R76 over the sensors whose bit is set in SENSOR_INCLUDE, of which there is always one: VALID with the largest value
and the first sensor that reads it; PENDING where no included sensor is VALID and one is PENDING; else INVALID with the first
mark. -/
def Obligations.AggregateFold : Prop :=
  (∀ (s : State) (n : Fin 4), s.included n = (s.settingN .sensorInclude).testBit n.val) ∧
  (∀ s : State, s.sst.settings.Valid → ∃ n, s.included n = true) ∧
  (∀ (s : State) (v : Int) (n : Fin 4), s.fold = .valid v n ↔
    (s.included n = true ∧ (s.thm.slots.get n).cond = .valid ∧ (s.thm.slots.get n).value.getD 0 = v ∧
      ∀ m, s.included m = true → (s.thm.slots.get m).cond = .valid →
        (s.thm.slots.get m).value.getD 0 ≤ v ∧ ((s.thm.slots.get m).value.getD 0 = v → n ≤ m))) ∧
  (∀ (s : State) (n : Fin 4) (c : SensorCause), s.fold = .invalid n c ↔
    ((∀ m, s.included m = true → (s.thm.slots.get m).cond = .marked ∧ n ≤ m) ∧
      s.included n = true ∧ (s.thm.slots.get n).mark.getD .openWire = c)) ∧
  (∀ s : State, s.fold = .pending ↔
    ((∀ m, s.included m = true → (s.thm.slots.get m).cond ≠ .valid) ∧
      ((∃ m, s.included m = true ∧ (s.thm.slots.get m).cond = .pending) ∨ ∀ m, s.included m = false)))

/-- The derate factor of R81: from the aggregate in the first step; halved with exactly one of two present fans degraded and 0 with
every present fan degraded in the second. -/
def Obligations.DerateFactor : Prop :=
  ∀ s : State, s.sst.settings.Valid → ∃ beforeFans : Nat,
    ((∀ v n, s.thm.aggregate ≠ .valid v n) → beforeFans = 0) ∧
    (∀ v n, s.thm.aggregate = .valid v n →
      (s.setting .derateEnd ≤ v → beforeFans = 0) ∧
      (v ≤ s.setting .derateStart → beforeFans = 256) ∧
      (s.setting .derateStart < v → v < s.setting .derateEnd → (beforeFans : Int) =
        256 * (s.setting .derateEnd - v) / (s.setting .derateEnd - s.setting .derateStart))) ∧
    (s.hasFan .f0 = true ∧ (s.hasFan .f1 = true ↔ s.sst.straps.twoFans = true)) ∧
    ((∀ f, s.hasFan f = true → (s.fnc.fans.get f).degraded = false) → s.derateFactor = beforeFans) ∧
    ((∃ f g, s.hasFan f = true ∧ s.hasFan g = true ∧ (s.fnc.fans.get f).degraded = true ∧
      (s.fnc.fans.get g).degraded = false) → s.derateFactor = beforeFans / 2 ∧ s.derateFactor ≤ 128) ∧
    ((∀ f, s.hasFan f = true → (s.fnc.fans.get f).degraded = true) → s.derateFactor = 0)

/-- A curve that FAN_CURVE_WRITE accepts gives its points' duties at and outside its ends, a floor of the straight line between, and
a duty from 0 to 100 that never falls as the temperature rises. A duty computation in RUN makes the five AUTO stages, the failsafe,
each present fan's applied duty and its spin-up grace; outside RUN none is made (R83, R85 to R87, R89). -/
def Obligations.CurvesAndDuties : Prop :=
  (∀ pts : List CurvePoint, curveOk pts = true →
     (∀ p rest v, pts = p :: rest → v ≤ p.temp → curveValue pts v = p.duty) ∧
     (∀ p v, pts.getLast? = some p → p.temp ≤ v → curveValue pts v = p.duty) ∧
     (∀ l p q r v, pts = l ++ p :: q :: r → p.temp ≤ v → v < q.temp →
       (curveValue pts v : Int) = p.duty + (v - p.temp) * ((q.duty : Int) - p.duty) / (q.temp - p.temp)) ∧
     (∀ v w, v ≤ w → curveValue pts v ≤ curveValue pts w) ∧
     (∀ v, curveValue pts v ≤ 100)) ∧
  (∀ s : State, s.psq.state ≠ .run → s.computeDuty = s) ∧
  (∀ (s : State) (v : Int) (n : Fin 4), s.psq.state = .run → s.thm.aggregate = .valid v n →
    let curve := if s.psq.lidConfirmed then s.fnc.curveClosed else s.fnc.curveOpen
    let base := max (curveValue curve v) (min s.fnc.prevBase (curveValue curve (v + s.setting .fanHyst)))
    let boosted := base + s.fnc.boost * s.settingN .boostStep
    let quieted := if s.fnc.quiet = true ∧ v < s.setting .quietOverrideTemp then min boosted (s.settingN .quietCap) else boosted
    let duty := min 100 (if 0 < quieted then max quieted (s.settingN .fanMinDuty) else 0)
    s.computeDuty.fnc.prevBase = base ∧
    ∀ f, s.hasFan f = true →
      (s.computeDuty.fnc.fans.get f).computed = some duty ∧
      (s.computeDuty.fnc.fans.get f).applied = (if s.anyDegraded then 100
        else match (s.fnc.fans.get f).mode with
          | .auto => duty
          | .manual => (s.fnc.fans.get f).manual)) ∧
  (∀ s : State, s.psq.state = .run → (∀ v n, s.thm.aggregate ≠ .valid v n) →
    s.computeDuty.fnc.prevBase = s.fnc.prevBase ∧
    ∀ f, s.hasFan f = true → (s.computeDuty.fnc.fans.get f).computed = none ∧ (s.computeDuty.fnc.fans.get f).applied = 100) ∧
  (∀ (s : State) (f : FanId), s.psq.state = .run → s.hasFan f = true →
    (s.computeDuty.fnc.fans.get f).grace = (if (s.fnc.fans.get f).applied = 0 ∧ 0 < (s.computeDuty.fnc.fans.get f).applied then 2
      else (s.fnc.fans.get f).grace))

/-- A tach report in RUN is stored and counted by the fan's condition; the third counted stall degrades the fan, the third counted
recovery restores it. Outside RUN, or for a fan the board lacks, it is ignored (R82, R89 to R91). -/
def Obligations.TachReports : Prop :=
  (∀ (f : FanId) (rpm : Nat) (s : State), s.psq.state = .run → s.hasFan f = true →
    ∃ t, exec (.tachReport f rpm) s = .next t ∧
    (t.psq.state = .run → (t.fnc.fans.get f).rpm = some rpm) ∧
    (let k := s.fnc.fans.get f
     let slow := rpm < s.settingN .fanStallRpm
     if k.degraded = true ∧ slow then t.fnc.fans.get f = { k with rpm := some rpm, recovery := 0 }
     else if k.degraded = true ∧ k.recovery + 1 < 3 then
       t.fnc.fans.get f = { k with rpm := some rpm, recovery := k.recovery + 1 }
     else if k.degraded = true then
       (t.fnc.fans.get f).degraded = false ∧ (t.fnc.fans.get f).recovery = 0 ∧ (t.fnc.fans.get f).stall = 0 ∧
         t.thm.d = t.derateFactor
     else if 0 < k.grace then t.fnc.fans.get f = { k with rpm := some rpm, grace := k.grace - 1, stall := 0 }
     else if ¬ (0 < k.applied ∧ s.settingN .fanMinDuty ≤ k.applied ∧ slow) then
       t.fnc.fans.get f = { k with rpm := some rpm, stall := 0 }
     else if k.stall + 1 < 3 then t.fnc.fans.get f = { k with rpm := some rpm, stall := k.stall + 1 }
     else (t.fnc.fans.get f).degraded = true ∧ (t.fnc.fans.get f).recovery = 0 ∧ (t.fnc.fans.get f).stall = 0 ∧
       (t.psq.state = .run → (t.fnc.fans.get f).applied = 100) ∧ t.thm.d = t.derateFactor)) ∧
  (∀ (f : FanId) (rpm : Nat) (s : State), s.psq.state ≠ .run ∨ s.hasFan f = false → exec (.tachReport f rpm) s = .next s)

/-! ### The key path -/

/-- A scan pass: the pass counter, the sticking and the restoring of every scanned line, and the debounce of every key on a line
that is not isolated, with the ghost test on a board without diodes. A line isolated by the pass has its keys taken to up and its
keys expected down released with origin LINE; then every key whose debounced state the pass changes gives a press or a release of
origin SCAN, in code order, each with the new pass number. They join the pending list as far as it has room, the rest flagging
their keys, or pass at once to a key queue with room. KEY_LINE_STUCK, with the number of the line's releases, and
KEY_LINE_RESTORED are reported (R97, R99 to R103, R105, R106). That the lines are taken in ascending order is the model's choice
(notes/assumptions/19.md). Outside SCANNING no pass completes. -/
def Obligations.ScanPasses : Prop :=
  (∀ (snap : BitVec 144) (s : State), s.mxs.cond = .scanning → s.mxs.keys.length = 144 → s.mxs.lines.length = 18 →
    s.sst.settings.Valid → s.RailsFollow → s.ScansInRun →
    ∃ t, exec (.scanPass snap) s = .next t ∧
    t.mxs.passCount = (s.mxs.passCount + 1) % 65536 ∧ t.mxs.passTimer = some (s.settingN .scanIntervalUs) ∧
    (∀ l ∈ List.range s.senseCount,
      ((s.mxs.line l).isolated = false →
        if ∀ d ∈ List.range 8, snap.getLsbD (d * 18 + l) = true then
          if 4000 ≤ (s.mxs.line l).stuck + 1 then t.mxs.line l = { s.mxs.line l with isolated := true, stuck := 0, restore := 0 }
          else t.mxs.line l = { s.mxs.line l with stuck := (s.mxs.line l).stuck + 1 }
        else t.mxs.line l = { s.mxs.line l with stuck := 0 }) ∧
      ((s.mxs.line l).isolated = true →
        if ∀ d ∈ List.range 8, snap.getLsbD (d * 18 + l) = false then
          if s.settingN .debouncePasses ≤ (s.mxs.line l).restore + 1 then
            t.mxs.line l = { s.mxs.line l with isolated := false, stuck := 0, restore := 0 }
          else t.mxs.line l = { s.mxs.line l with restore := (s.mxs.line l).restore + 1 }
        else t.mxs.line l = { s.mxs.line l with restore := 0 })) ∧
    (∀ c ∈ List.range 144, c % 18 < s.senseCount → (s.mxs.line (c % 18)).isolated = false →
      (t.mxs.line (c % 18)).isolated = false →
      (t.mxs.key c).raw = snap.getLsbD c ∧
      if snap.getLsbD c = (s.mxs.key c).debounced then
        (t.mxs.key c).debounced = (s.mxs.key c).debounced ∧ (t.mxs.key c).count = 0 ∧ (t.mxs.key c).ghost = false
      else if ¬ ((s.mxs.key c).ghost = true ∧ snap.getLsbD c = true) ∧ (s.mxs.key c).count + 1 < s.settingN .debouncePasses then
        (t.mxs.key c).debounced = (s.mxs.key c).debounced ∧ (t.mxs.key c).count = (s.mxs.key c).count + 1 ∧
          (t.mxs.key c).ghost = (s.mxs.key c).ghost
      else if snap.getLsbD c = false then (t.mxs.key c).debounced = false ∧ (t.mxs.key c).count = 0
      else if s.sst.straps.diodes = false ∧ ∃ d ∈ List.range 8, ∃ l ∈ List.range s.senseCount,
          d ≠ c / 18 ∧ l ≠ c % 18 ∧ (t.mxs.line l).isolated = false ∧ snap.getLsbD (c / 18 * 18 + l) = true ∧
          snap.getLsbD (d * 18 + c % 18) = true ∧ snap.getLsbD (d * 18 + l) = true then
        (t.mxs.key c).debounced = false ∧ (t.mxs.key c).count = s.settingN .debouncePasses ∧ (t.mxs.key c).ghost = true
      else (t.mxs.key c).debounced = true ∧ (t.mxs.key c).count = 0 ∧ (t.mxs.key c).ghost = false) ∧
    (∀ c ∈ List.range 144, s.senseCount ≤ c % 18 ∨ (s.mxs.line (c % 18)).isolated = true →
      (t.mxs.key c).raw = (s.mxs.key c).raw ∧ (t.mxs.key c).debounced = (s.mxs.key c).debounced ∧
      (t.mxs.key c).count = (s.mxs.key c).count ∧ (t.mxs.key c).ghost = (s.mxs.key c).ghost) ∧
    (∀ c ∈ List.range 144, c % 18 < s.senseCount → (s.mxs.line (c % 18)).isolated = false →
      (t.mxs.line (c % 18)).isolated = true →
      (t.mxs.key c).raw = false ∧ (t.mxs.key c).debounced = false ∧ (t.mxs.key c).count = 0 ∧ (t.mxs.key c).ghost = false)) ∧
  (∀ (snap : BitVec 144) (s : State), s.mxs.cond = .scanning → s.mxs.keys.length = 144 → s.mxs.lines.length = 18 →
    s.sst.settings.Valid → s.RailsFollow → s.ScansInRun → s.lnk.canStart = false →
    ∃ t, exec (.scanPass snap) s = .next t ∧
    (let pass := (s.mxs.passCount + 1) % 65536
     let stuck : Nat → Bool := fun l => !(s.mxs.line l).isolated && (t.mxs.line l).isolated
     let restored : Nat → Bool := fun l => (s.mxs.line l).isolated && !(t.mxs.line l).isolated
     let lines := List.range s.senseCount
     let releases : Nat → List Transition := fun l =>
       (((List.range 8).map (fun d => d * 18 + l)).filter (fun c => s.mxs.expected c && !(s.mxs.key c).resync)).map
         (fun c => ⟨c, false, pass, .line⟩)
     let scanned := (List.range 144).filter (fun c => decide (c % 18 < s.senseCount) && !(s.mxs.line (c % 18)).isolated &&
       !(t.mxs.line (c % 18)).isolated && ((t.mxs.key c).debounced != (s.mxs.key c).debounced) && !(s.mxs.key c).resync)
     let produced : List Transition := (lines.filter stuck).flatMap releases ++
       scanned.map (fun c => ⟨c, (t.mxs.key c).debounced, pass, .scan⟩)
     (s.mxs.pending ≠ [] →
       t.mxs.pending = s.mxs.pending ++ produced.take (16 - s.mxs.pending.length) ∧ t.mxs.queue = s.mxs.queue ∧
       (∀ c < 144, ((t.mxs.key c).resync = true ↔ ((s.mxs.key c).resync = true ∨
         ∃ e ∈ produced.drop (16 - s.mxs.pending.length), e.code = c))) ∧
       (∀ l ∈ lines, (∀ m ∈ lines, m ≠ l → stuck m = false ∧ restored m = false) →
         (stuck l = true → s.flm.mark (.keyline l) ≠ some .keyLineStuck →
           ∃ seq, t.flm.log.getLast? = some ⟨seq, .keyLineStuck, .keyline l, some (releases l).length, .run⟩) ∧
         (restored l = true →
           ∃ seq, t.flm.log.getLast? = some ⟨seq, .keyLineRestored, .keyline l, some 0, .run⟩))) ∧
     (s.mxs.pending = [] → s.mxs.stalled = false → (∀ w ∈ s.hkm.windows, w.enabled = false) →
       s.mxs.queue.length + produced.length < s.settingN .keyQUpper →
       t.mxs.pending = [] ∧ t.mxs.queue = s.mxs.queue ++ produced.filter (fun e =>
         e.press != (s.mxs.key e.code).reported && (e.press || !(s.mxs.key e.code).consumed))) ∧
     (s.flm.marks.length = 31 → ∀ l ∈ lines,
       (stuck l = true → t.flm.mark (.keyline l) = some .keyLineStuck) ∧
       (restored l = true → t.flm.mark (.keyline l) = none) ∧
       (stuck l = false → restored l = false → t.flm.mark (.keyline l) = s.flm.mark (.keyline l))))) ∧
  (∀ (snap : BitVec 144) (s : State), s.mxs.cond ≠ .scanning → exec (.scanPass snap) s = .next s)

/-- An activity pass counts the active lines; an armed scanner raises one KEY wake and disarms, and is armed again by the first pass
without an active line. Outside ACTIVITY no pass completes (R104, R136, R137). -/
def Obligations.ActivityPasses : Prop :=
  (∀ (active : BitVec 18) (s : State), s.mxs.cond = .activity → s.mxs.lines.length = 18 → s.sst.settings.Valid →
    ∃ t, exec (.activityPass active) s = .next t ∧
    (let counted : Nat → Bool := fun l =>
       decide (l < s.senseCount) && !(s.mxs.line l).isolated && active.getLsbD l
     let fires : Bool := s.mxs.armed && (List.range 18).any (fun l =>
       counted l && decide (s.settingN .debouncePasses ≤ (s.mxs.line l).activity + 1))
     (t.mxs.armed = (!fires && (s.mxs.armed || !(List.range 18).any counted))) ∧
     (∀ l ∈ List.range 18, (t.mxs.line l).activity =
       if s.mxs.armed && !fires && counted l then (s.mxs.line l).activity + 1 else 0) ∧
     (fires = true → s.psq.state = .standby → s.psq.wakeList = [] → (s.settingN .wakeMask).testBit 2 = true →
       t.psq.state = .seqUp ∧ t.psq.startKind = some .wake ∧ t.psq.wakeList = [.key]) ∧
     (fires = false → t.psq = s.psq ∧ t.mxs.passTimer = some (s.settingN .scanIntervalUs))) ∧
    t.mxs.keys.map KeyRec.debounced = s.mxs.keys.map KeyRec.debounced ∧ t.mxs.passCount = s.mxs.passCount) ∧
  (∀ (active : BitVec 18) (s : State), s.mxs.cond ≠ .activity → exec (.activityPass active) s = .next s)

/-- One offer of the pending head: its destinations by the windows or the consumed flag, the key queue guard, the acceptance by every
remaining destination, and what an accepted head writes. HAND_OFF makes an offer; an action that waits at the head of the action queue
is not offered by it. The departure of an accepted head offers the next, in the same event, and so on until a head is refused or
the list is empty; what is left is the list's tail. The resync, run where its condition holds, clears the flagged keys' flags in code order until the pending list
holds 16. Each key it takes whose debounced state differs from its reported state is given one transition of its debounced
direction with origin RESYNC, in code order, which the key queue or the pending list then holds, unless its hand-off matched the
press to ACTION only or found the release consumed; no other key is given one (R105 to R110, R117 to R120, R124). -/
def Obligations.HandOffsAndResyncs : Prop :=
  (∀ (e : Transition) (rest : List Transition) (s : State), s.mxs.pending = e :: rest →
    let k := s.mxs.key e.code
    let w := s.hkm.windows.find? (fun w => w.enabled && e.code / (256 - w.mask) == w.base / (256 - w.mask))
    let consumes : Bool := match w with
      | some w => w.consume
      | none => false
    let key : Bool := (if e.press then !consumes else !k.consumed) && e.press != k.reported
    let action : Option Nat := if e.press then w.map (fun w =>
        w.translation / (256 - w.mask) * (256 - w.mask) + (e.code - e.code / (256 - w.mask) * (256 - w.mask))) else none
    let k' : KeyRec := { k with
      reported := if key then e.press else k.reported, consumed := if e.press then consumes else k.consumed }
    let queue := if key then s.mxs.queue ++ [e] else s.mxs.queue
    s.tryHandOff = if (key = true ∧ s.mxs.stalled = true) ∨ (action.isSome = true ∧ 4 ≤ s.hkm.queue.length) then none
      else some ((s.setMxs { s.mxs with
        pending := rest, keys := s.mxs.keys.set e.code k', queue := queue,
        stalled := s.mxs.stalled || (key && decide (s.settingN .keyQUpper ≤ queue.length)) }).setHkm
        { s.hkm with queue := s.hkm.queue ++ action.toList })) ∧
  (∀ s : State, s.mxs.pending = [] ∨ s.tryHandOff = none → exec .handOff s = .next s) ∧
  (∀ s u : State, s.tryHandOff = some u → s.hkm.queue ≠ [] ∨ u.tryAction = none → u.tryHandOff = none →
    exec .handOff s = .next (u.close s)) ∧
  (∀ s u v : State, s.tryHandOff = some u → s.hkm.queue ≠ [] ∨ u.tryAction = none → u.tryHandOff = some v →
    u.hkm.queue ≠ [] ∨ v.tryAction = none → v.tryHandOff = none → exec .handOff s = .next (v.close s)) ∧
  (∀ s : State, exec .handOff s = .next (s.offerPending.close s) ∧ s.offerPending.tryHandOff = none ∧
    s.offerPending.mxs.pending <:+ s.mxs.pending ∧ s.mxs.queue <+: s.offerPending.mxs.queue) ∧
  (∀ s : State, s.mxs.stalled = false → (∀ w ∈ s.hkm.windows, w.enabled = false) →
    s.mxs.queue.length + s.mxs.pending.length < s.settingN .keyQUpper → (s.mxs.pending.map Transition.code).Nodup →
    s.offerPending.mxs.pending = [] ∧ s.offerPending.mxs.queue = s.mxs.queue ++ s.mxs.pending.filter (fun e =>
      e.press != (s.mxs.key e.code).reported && (e.press || !(s.mxs.key e.code).consumed))) ∧
  (∀ s : State, s.mxs.resyncDue = false → exec .resync s = .next s) ∧
  (∀ s : State, s.mxs.resyncDue = true → exec .resync s = .next (s.runResync.close s)) ∧
  (∀ s : State, s.mxs.resyncDue = true → s.mxs.keys.length = 144 →
    (∀ c, (s.runResync.mxs.key c).debounced = (s.mxs.key c).debounced) ∧
    (s.runResync.mxs.pending.length < 16 → ∀ c, (s.runResync.mxs.key c).resync = false) ∧
    (∀ c d, c < d → (s.mxs.key c).resync = true → (s.mxs.key d).resync = true → (s.runResync.mxs.key d).resync = false →
      (s.runResync.mxs.key c).resync = false) ∧
    (let given := s.runResync.mxs.queue.drop s.mxs.queue.length ++ s.runResync.mxs.pending
     s.runResync.mxs.queue.take s.mxs.queue.length = s.mxs.queue ∧
     given.Pairwise (fun e f => e.code < f.code) ∧
     (∀ e ∈ given, e = ⟨e.code, (s.mxs.key e.code).debounced, s.mxs.passCount, .resync⟩ ∧
       (s.mxs.key e.code).resync = true ∧ (s.mxs.key e.code).debounced ≠ (s.mxs.key e.code).reported) ∧
     ∀ c < 144, (s.mxs.key c).resync = true → (s.runResync.mxs.key c).resync = false →
       (s.mxs.key c).debounced ≠ (s.mxs.key c).reported →
       ⟨c, (s.mxs.key c).debounced, s.mxs.passCount, .resync⟩ ∈ given ∨
         (if (s.mxs.key c).debounced then (s.hkm.windowOf c).any Window.consume else (s.mxs.key c).consumed) = true))

/-- One offer of the action at the head: an entry NONE is discarded; any other waits for room in the notice queue and then
sends its HOTKEY notice, with the resulting value, and makes its effect. ACTION_EXECUTE makes an offer once the notice queue
has room. An action that joins an empty queue is offered in the event of its hand-off, and the next action as one leaves the
head (R88, R124 to R127). That pack A's writes and PACK notice stand before pack B's in the evaluation of CHARGE_LIMIT_CYCLE
is the model's (notes/assumptions/11.md, 19.md). -/
def Obligations.ActionExecutions : Prop :=
  (∀ (i : Nat) (rest : List Nat) (s : State), s.hkm.queue = i :: rest →
    let e := s.hkm.actions.getD i ⟨.nothing, 0⟩
    let left : Hkm := { s.hkm with queue := rest }
    let boost := if s.fnc.boost = 0 then 1 else if s.fnc.boost = 1 then 2 else 0
    let limit : Int := if 81 ≤ s.setting .chargeLimit then 80 else if 61 ≤ s.setting .chargeLimit then 60 else 100
    s.tryAction =
      if e.kind = .nothing then some (s.setHkm left)
      else if 16 ≤ s.lnk.notices.length then none
      else match e.kind with
        | .nothing => some (s.setHkm left)
        | .fanBoostCycle => some ((((s.notice (.hotkey i .fanBoostCycle boost)).setFnc
            { s.fnc with boost := boost }).computeDuty).setHkm left)
        | .quietToggle => some ((((s.notice (.hotkey i .quietToggle (if s.fnc.quiet then 0 else 1))).setFnc
            { s.fnc with quiet := !s.fnc.quiet }).computeDuty).setHkm left)
        | .chargeLimitCycle => some ((((s.notice (.hotkey i .chargeLimitCycle limit.toNat)).setSst
            { s.sst with settings := s.sst.settings.set .chargeLimit limit }).trigger .setting).setHkm left)
        | .hostNotice => some ((s.notice (.hotkey i .hostNotice e.argument)).setHkm left)) ∧
  (∀ s : State, s.hkm.queue = [] ∨ 16 ≤ s.lnk.notices.length ∨ s.tryAction = none → exec .actionExecute s = .next s) ∧
  (∀ s u : State, s.lnk.notices.length < 16 → s.tryAction = some u → u.tryAction = none → u.tryHandOff = none →
    exec .actionExecute s = .next (u.close s)) ∧
  (∀ s u v : State, s.lnk.notices.length < 16 → s.tryAction = some u → u.tryAction = some v → v.tryAction = none →
    v.tryHandOff = none → exec .actionExecute s = .next (v.close s)) ∧
  (∀ s u v : State, s.hkm.queue = [] → s.tryHandOff = some u → u.tryAction = some v → v.tryAction = none →
    v.tryHandOff = none → exec .handOff s = .next (v.close s))

/-! ### System power -/

/-- A change of a raw level restarts its stability timer; at the timer's expiry a level that differs is confirmed: the
button's press and release and the lid's change act by system power state (R83, R98, R140 to R144, R149). That the FNC takes a
lid change before the MXS is the model's choice (notes/assumptions/19.md). -/
def Obligations.DebouncedInputs : Prop :=
  (∀ (level : Bool) (s : State),
    exec (.rawLevelChange .button level) s = .next (if s.psq.buttonRaw = level then s
      else s.setPsq { s.psq with buttonRaw := level, buttonTimer := some 20 }) ∧
    exec (.rawLevelChange .lid level) s = .next (if s.psq.lidRaw = level then s
      else s.setPsq { s.psq with lidRaw := level, lidTimer := some 50 })) ∧
  (∀ s : State, s.psq.buttonTimer.isSome = true →
    exec (.stabilityTimerExpiry .button) s = .next (
      let pressed : Psq := { s.psq with
        buttonTimer := none, buttonConfirmed := true, pressTime := some s.time, holdTimer := some (s.settingN .buttonHoldMs) }
      let released : Psq := { s.psq with buttonTimer := none, buttonConfirmed := false, holdTimer := none }
      if s.psq.buttonRaw = s.psq.buttonConfirmed then s.setPsq { s.psq with buttonTimer := none }
      else if s.psq.buttonRaw then
        match s.psq.state with
        | .off | .standby | .seqUp => ((s.setPsq pressed).wakeSource .button).close s
        | .run => ((s.setPsq pressed).notice (.button false none)).close s
        | .seqDown => s.setPsq { s.psq with buttonTimer := none, buttonConfirmed := true }
        | .tripped => ((s.setPsq pressed).releaseAttempt).close s
      else if s.psq.state = .run then
        ((s.setPsq released).notice (.button true (s.psq.pressTime.map (fun t => min 65535 (s.time - t))))).close s
      else s.setPsq released)) ∧
  (∀ s : State, s.psq.lidTimer.isSome = true →
    exec (.stabilityTimerExpiry .lid) s = .next (
      let closed := s.psq.lidRaw
      let seen := ((s.setPsq { s.psq with lidTimer := none, lidConfirmed := closed }).computeDuty).mxsDecide
      if s.psq.lidRaw = s.psq.lidConfirmed then s.setPsq { s.psq with lidTimer := none }
      else
        match s.psq.state with
        | .run =>
          let told := if s.setting .lidAction = 0 then seen else seen.notice (.lid closed)
          (if closed = false then told.setPsq { told.psq with lidDelay := none }
           else if s.setting .lidAction ≠ 2 then told
           else if s.settingN .lidDelayS = 0 then told.enterSeqDown .standby .lidTimer none
           else told.setPsq { told.psq with lidDelay := some (s.settingN .lidDelayS * 1000) }).close s
        | .off | .standby | .seqUp | .seqDown => (if closed then seen else seen.wakeSource .lid).close s
        | .tripped => seen.close s)) ∧
  (∀ s : State, (s.psq.buttonTimer = none → exec (.stabilityTimerExpiry .button) s = .next s) ∧
    (s.psq.lidTimer = none → exec (.stabilityTimerExpiry .lid) s = .next s))

/-- A wake source by WAKE_MASK and by system power state: SEQ_UP from STANDBY, a start from OFF or a held start, a reason appended in
a sequence, nothing in RUN and TRIPPED (R130, R134 to R138). -/
def Obligations.WakeEvents : Prop :=
  ∀ (w : WakeReason) (s : State),
    (s.inMask w = true ↔ (w = .button ∨ w = .restart ∨ (w = .lid ∧ (s.settingN .wakeMask).testBit 1 = true) ∨
      (w = .key ∧ (s.settingN .wakeMask).testBit 2 = true) ∨ (w = .adapter ∧ (s.settingN .wakeMask).testBit 3 = true) ∨
      (w = .packLow ∧ (s.settingN .wakeMask).testBit 4 = true) ∨ (w = .timer ∧ (s.settingN .wakeMask).testBit 5 = true))) ∧
    (s.inMask w = false → s.wakeSource w = s) ∧
    (s.inMask w = true →
      let told : Psq := { s.psq with wakeList := withReason s.psq.wakeList w }
      (s.psq.state = .standby → (s.wakeSource w).psq = told.risenFromStandby) ∧
      (s.psq.state = .off → w = .button ∨ w = .lid ∨ w = .adapter →
        (s.wakeSource w).psq = (if s.psq.held.isSome then told
          else if s.permission then told.risenFromOff .wake
          else { told with held := some 1000, startKind := some .wake })) ∧
      (s.psq.state = .off → w ≠ .button → w ≠ .lid → w ≠ .adapter → s.wakeSource w = s) ∧
      (s.psq.state = .seqUp ∨ s.psq.state = .seqDown → s.wakeSource w = s.setPsq told) ∧
      (s.psq.state = .run ∨ s.psq.state = .tripped → s.wakeSource w = s))

/-- The power-up sequence: the rises that end a step, the settle timer that enters RUN, and the held start that goes on with
permission or ends with BOOT_DENIED (R129 to R131, R134, R135, R144, R150, R162). -/
def Obligations.PowerUp : Prop :=
  (∀ s : State, s.psq.mainGood = false →
    exec (.powerGoodRise .main) s = .next (if s.psq.state = .seqUp ∧ s.psq.step = some .mainWait then
      (s.setPsq { s.psq with
        mainGood := true, coreOn := true, step := some (if s.psq.coreGood then .settle else .coreWait),
        stepTimer := some (if s.psq.coreGood then 10 else 30) }).emit
        (if s.psq.coreOn then [] else [.railEnable .core true])
      else s.setPsq { s.psq with mainGood := true })) ∧
  (∀ s : State, s.psq.coreGood = false →
    exec (.powerGoodRise .core) s = .next (if s.psq.state = .seqUp ∧ s.psq.step = some .coreWait then
      s.setPsq { s.psq with coreGood := true, step := some .settle, stepTimer := some 10 }
      else s.setPsq { s.psq with coreGood := true })) ∧
  (∀ (r : Rail) (s : State), s.psq.good r = true → exec (.powerGoodRise r) s = .next s) ∧
  (∀ s : State, s.RailsFollow → s.psq.state = .seqUp → s.psq.step = some .settle →
    ∃ t, exec .settleTimerExpiry s = .next t ∧
    (if s.psq.lidConfirmed = true ∧ s.setting .lidAction = 2 ∧ s.settingN .lidDelayS = 0 then
        t.psq.state = (if s.psq.coreGood then .seqDown else .standby) ∧ t.psq.downCause = some .lidTimer
      else
        t.psq = { s.psq with
          state := .run, hrst := false, step := none, stepTimer := none, wakeList := [],
          lidDelay := if s.psq.lidConfirmed = true ∧ s.setting .lidAction = 2 then some (s.settingN .lidDelayS * 1000)
            else s.psq.lidDelay } ∧
        t.flm.watchdog = (if s.settingN .watchdogS = 0 then none else some (s.settingN .watchdogS * 1000)) ∧
        (s.lnk.canStart = false → s.lnk.notices.length < 14 →
          .state .run (.start (s.psq.startKind.getD .wake)) s.psq.lidConfirmed ∈ t.lnk.notices ∧
          .wake (s.psq.startKind.getD .wake) s.psq.wakeList ∈ t.lnk.notices))) ∧
  (∀ s : State, ¬ (s.psq.state = .seqUp ∧ s.psq.step = some .settle) → exec .settleTimerExpiry s = .next s) ∧
  (∀ s : State, s.psq.held.isSome = true → s.permission = true →
    ∃ t, exec .heldStartProceed s = .next t ∧ t.psq = s.psq.risenFromOff (s.psq.startKind.getD .wake)) ∧
  (∀ s : State, s.psq.held = none ∨ s.permission = false → exec .heldStartProceed s = .next s) ∧
  (∀ s : State, s.psq.held.isSome = true →
    exec .permissionWaitTimerExpiry s = .next ((((s.report .bootDenied .system (some 0)).setPsq
      { s.psq with wakeList := [], held := none, startKind := none })).close s)) ∧
  (∀ s : State, s.psq.held = none → exec .permissionWaitTimerExpiry s = .next s)

/-- The power-down sequence: what SEQ_DOWN's entry does, when it waits for CORE, and how each target is entered and the wake reason
list acted on. HRST is asserted first, then CORE is turned off, then, for OFF and TRIPPED, MAIN; and each entry into STANDBY, OFF
or TRIPPED, by a protective shutdown in OFF too, places a STATE notice with the state, the down cause and the confirmed lid state
(R132, R133, R138, R142, R146 to R148, R150). That FORCED_OFF, CRITICAL_OFF and PROTECT take STANDBY to its target at once
even while CORE good reads high is the model's reading (notes/assumptions/10.md). -/
def Obligations.SeqDownReachesItsTarget : Prop :=
  (∀ (target : DownTarget) (cause : DownCause) (origin : Option RestartOrigin) (s : State),
    s.psq.state ≠ .standby ∨ cause = .request ∨ cause = .lidTimer ∨ cause = .restart → s.psq.coreGood = true →
    (s.enterSeqDown target cause origin).psq = { s.psq with
      state := .seqDown, hrst := true, coreOn := false, step := some .coreWait, stepTimer := some 50, startKind := none,
      downTarget := some target, downCause := some cause, restartOrigin := origin, lidDelay := none } ∧
    (s.enterSeqDown target cause origin).outs.filter OutputWrite.ofPower = s.outs.filter OutputWrite.ofPower ++
      (if s.psq.hrst then [] else [.hostReset true]) ++ (if s.psq.coreOn then [.railEnable .core false] else [])) ∧
  (∀ (target : DownTarget) (cause : DownCause) (s : State),
    s.psq.coreGood = false ∨
      (s.psq.state = .standby ∧ (cause = .forcedOff ∨ cause = .criticalOff ∨ cause = .protect)) →
    s.psq.wakeList = [] → cause ≠ .restart →
    (s.enterSeqDown target cause none).psq = { s.psq with
      state := match target with
        | .standby => .standby
        | .off => .off
        | .tripped => .tripped
      mainOn := match target with
        | .standby => s.psq.mainOn
        | .off | .tripped => false
      hrst := true, coreOn := false, step := none, stepTimer := none, startKind := none,
      downTarget := none, downCause := some cause, restartOrigin := none, lidDelay := none } ∧
    (s.enterSeqDown target cause none).outs.filter OutputWrite.ofPower = s.outs.filter OutputWrite.ofPower ++
      (if s.psq.hrst then [] else [.hostReset true]) ++ (if s.psq.coreOn then [.railEnable .core false] else []) ++
      (if target ≠ .standby ∧ s.psq.mainOn = true then [.railEnable .main false] else [])) ∧
  (∀ (cause : DownCause) (s : State), s.psq.downCause = some cause →
    (s.psq.downTarget = some .standby → .state .standby (.down cause) s.psq.lidConfirmed ∈ s.finishDown.lnk.notices) ∧
    (s.psq.downTarget = some .off → .state .off (.down cause) s.psq.lidConfirmed ∈ s.finishDown.lnk.notices) ∧
    (s.psq.downTarget = some .tripped → .state .tripped (.down cause) s.psq.lidConfirmed ∈ s.finishDown.lnk.notices)) ∧
  (∀ s : State, s.psq.state = .off →
    s.protectiveShutdown.psq = { s.psq with
      state := .tripped, held := none, startKind := none, downCause := some .protect, wakeList := [] } ∧
    .state .tripped (.down .protect) s.psq.lidConfirmed ∈ s.protectiveShutdown.lnk.notices) ∧
  (∀ s : State,
    let reached : Psq := { s.psq with step := none, stepTimer := none, downTarget := none, restartOrigin := none }
    (s.psq.downTarget = some .standby → s.finishDown.psq =
      (if s.psq.wakeList = [] then { reached with state := .standby }
       else ({ reached with state := .standby } : Psq).risenFromStandby)) ∧
    (s.psq.downTarget = some .tripped → s.finishDown.psq =
      { reached with state := .tripped, mainOn := false, wakeList := [] }) ∧
    (s.psq.downTarget = some .off → s.psq.held = none →
      let off : Psq := { reached with state := .off, mainOn := false }
      let started : StartKind → Psq → Psq := fun k q =>
        if s.permission then q.risenFromOff k else { q with held := some 1000, startKind := some k }
      s.finishDown.psq =
        if s.psq.downCause = some .restart then
          match s.psq.restartOrigin with
          | some .escalation => started .escalation { off with wakeList := withReason off.wakeList .restart }
          | _ => started .request off
        else if .button ∈ off.wakeList ∨ .lid ∈ off.wakeList ∨ .adapter ∈ off.wakeList then started .wake off
        else { off with wakeList := [] }))

/-- The timers and falls that bring the system down: each by state and step, with the report it makes; the wake timer's expiry
disarms it and may wake (R130 to R132, R139, R142, R144). The order in which the blocks take a change of state, and the PACK
notices of a latch's evaluation before the STATE notice of its shutdown, are the model's choice (notes/assumptions/19.md);
which causes take STANDBY down at once is its reading (10.md). -/
def Obligations.PowerDownEvents : Prop :=
  (∀ (r : Rail) (s : State), s.psq.good r = true →
    exec (.powerGoodFall r) s = .next (
      let fallen := s.setPsq (match r with
        | .main => { s.psq with mainGood := false }
        | .core => { s.psq with coreGood := false })
      if s.psq.state = .run ∨ (s.psq.state = .standby ∧ r = .main) ∨
          (s.psq.state = .seqUp ∧ r = .main ∧ s.psq.step ≠ some .mainWait) ∨
          (s.psq.state = .seqUp ∧ r = .core ∧ s.psq.step = some .settle) ∨
          (s.psq.state = .seqDown ∧ r = .main ∧ s.psq.downTarget = some .standby) then
        (fallen.report .railFault (.rail r) (some 1)).close s
      else if s.psq.state = .seqDown ∧ r = .core then fallen.finishDown.close s
      else fallen)) ∧
  (∀ (r : Rail) (s : State), s.psq.good r = false → exec (.powerGoodFall r) s = .next s) ∧
  (∀ s : State, exec .powerGoodTimerExpiry s = .next (
    if s.psq.state = .seqUp ∧ s.psq.step = some .mainWait then (s.report .railFault (.rail .main) (some 0)).close s
    else if s.psq.state = .seqUp ∧ s.psq.step = some .coreWait then (s.report .railFault (.rail .core) (some 0)).close s
    else s)) ∧
  (∀ s : State, exec .fallTimerExpiry s = .next (
    if s.psq.state = .seqDown then ((s.report .railSlow (.rail .core) none).finishDown).close s else s)) ∧
  (∀ s : State, exec .holdTimerExpiry s = .next (
    if s.psq.holdTimer = none then s
    else if s.psq.state = .seqUp ∨ s.psq.state = .run ∨ s.psq.state = .standby then
      (((s.setPsq { s.psq with holdTimer := none }).report .forcedOff .system none).enterSeqDown .off .forcedOff none).close s
    else s.setPsq { s.psq with holdTimer := none })) ∧
  (∀ s : State, exec .lidTimerExpiry s = .next (
    if s.psq.lidDelay.isSome = true ∧ s.psq.state = .run then (s.enterSeqDown .standby .lidTimer none).close s else s)) ∧
  (∀ s : State, exec .wakeTimerExpiry s = .next (
    if s.psq.wakeArmed = true ∧ s.psq.state = .standby then
      ((s.setPsq { s.psq with wakeArmed := false, wakeRemaining := 0 }).wakeSource .timer).close s
    else s))

/-! ### Faults and the latch -/

/-- A report is suppressed by its source's mark, or marked, numbered, logged with the oldest ADVISORY record or the oldest record
giving way, noted in the retained summary, and handled by its class (R153 to R158). -/
def Obligations.ReportsAreLogged : Prop :=
  ∀ (c : FaultCause) (src : Source) (detail : Option Int) (s : State),
    (isMarking c = true → s.flm.mark src = some c → s.report c src detail = s) ∧
    (¬ (isMarking c = true ∧ s.flm.mark src = some c) →
      let seq := if s.flm.counter = 0 then 1 else s.flm.counter
      let kept := if s.flm.counter = 0 then [] else s.flm.log
      let r : FaultRecord := ⟨seq, c, src, detail, s.psq.state⟩
      let u := s.reportLogged c src detail
      u.flm.log = (if kept.length < 16 then kept
        else if kept.any (fun x => faultClass x.cause == .advisory) then
          kept.eraseP (fun x => faultClass x.cause == .advisory)
        else kept.tail) ++ [r] ∧
      u.flm.counter = (if seq = 4294967295 then 0 else seq + 1) ∧
      u.flm.marks = (if isMarking c then s.flm.marks.set (sourceCode src) (some c)
        else if isClearing c then s.flm.marks.set (sourceCode src) none else s.flm.marks) ∧
      u.flm.latch = s.flm.latch ∧ u.psq = s.psq ∧
      (match faultClass c with
       | .protect => u.flm.retained.protect = true ∧ u.flm.retained.lastProtect = protectCauseOf c
       | .escalate => u.flm.retained.escalate = true
       | .urgent => u.flm.retained.urgent = true
       | .advisory => u.flm.retained = s.flm.retained) ∧
      (if faultClass c = .urgent ∨ faultClass c = .protect then
        u.flm.u = true ∧ u.flm.m = s.flm.u ∧
        u.lnk.urgent = (if s.lnk.urgent.length < 4 then s.lnk.urgent ++ [⟨r, s.flm.u⟩] else s.lnk.urgent)
       else u.flm.u = s.flm.u ∧ u.flm.m = s.flm.m ∧ u.lnk.urgent = s.lnk.urgent) ∧
      (faultClass c = .advisory →
        (s.setting .advisoryNotices = 0 → u.lnk = s.lnk ∧ u.flm.held = s.flm.held) ∧
        (s.setting .advisoryNotices ≠ 0 → s.flm.u = false → u.lnk = s.lnk.placeNotice (.advisory r)) ∧
        (s.setting .advisoryNotices ≠ 0 → s.flm.u = true → u.lnk = s.lnk ∧ u.flm.held = min 255 (s.flm.held + 1) ∧
          u.flm.firstHeld = (if s.flm.held = 0 then some seq else s.flm.firstHeld))))

/-- A PROTECT report sets the latch with its cause, cuts every charge current where the latch was clear, and takes the system to
TRIPPED; a press in TRIPPED releases the latch only with every cause clear and power permission, and is else denied (R148, R149,
R160, R161). -/
def Obligations.LatchAndRelease : Prop :=
  (∀ (c : FaultCause) (pc : ProtectCause) (src : Source) (detail : Option Int) (s : State), protectCauseOf c = some pc →
    (s.report c src detail).flm.latch.isSet = true ∧
    ((s.report c src detail).psq.state = .tripped ∨
      ((s.report c src detail).psq.state = .seqDown ∧ (s.report c src detail).psq.downTarget = some .tripped)) ∧
    (s.report c src detail).flm.retained.lastProtect = some pc ∧
    (s.flm.latch.isSet = false → ∀ p, ((s.report c src detail).cbu.budget.packs.get p).iApp = 0)) ∧
  (∀ s : State, s.psq.state = .tripped →
    let cleared := s.releaseTests
    (cleared.flm.latch.allClear = false → s.releaseAttempt = cleared.report .bootDenied .system (some 1)) ∧
    (cleared.flm.latch.allClear = true → s.permission = false →
      s.releaseAttempt = cleared.report .bootDenied .system (some 2)) ∧
    (cleared.flm.latch.allClear = true → s.permission = true →
      s.releaseAttempt.flm.latch.isSet = false ∧
      s.releaseAttempt.psq = ({ s.psq with wakeList := withReason s.psq.wakeList .button } : Psq).risenFromOff .release)) ∧
  (∀ s : State,
    s.releaseTests.flm.latch.thermCritical = s.flm.latch.thermCritical.map (fun b =>
      b && !(match s.thm.aggregate with
        | .valid v _ => decide (v < s.setting .thermUrgent)
        | _ => false)) ∧
    s.releaseTests.flm.latch.railFault = s.flm.latch.railFault.map (fun b => b && (s.psq.mainOn || s.psq.coreOn)) ∧
    s.releaseTests.flm.latch.overdrawHold = s.flm.latch.overdrawHold.map (fun b =>
      b && decide (s.cbu.budget.mode = .overdraw)))

/-- The watchdog's expiry: with U clear it reports WATCHDOG_FIRST and restarts; with U set it escalates: the record with the
count, the URGENT notice without the marker, the flags cleared and a host restart (R163). With the watchdog stopped nothing
happens. The order in which the blocks take the restart's change of state is the model's choice (notes/assumptions/19.md). -/
def Obligations.WatchdogExpires : Prop :=
  (∀ s : State, s.flm.watchdog.isSome = true → s.flm.u = false →
    exec .watchdogExpiry s = .next (
      let reported := s.report .watchdogFirst .system (some (s.setting .watchdogS))
      (reported.setFlm { reported.flm with
        watchdog := if s.settingN .watchdogS = 0 then none else some (s.settingN .watchdogS * 1000) }).close s)) ∧
  (∀ s : State, s.flm.watchdog.isSome = true → s.flm.u = true →
    exec .watchdogExpiry s = .next (
      let count := min 255 (s.flm.retained.escalations + 1)
      let seq := if s.flm.counter = 0 then 1 else s.flm.counter
      let kept := if s.flm.counter = 0 then [] else s.flm.log
      let r : FaultRecord := ⟨seq, .watchdogSecond, .system, some count, s.psq.state⟩
      let f : Flm := { s.flm with
        log := (if kept.length < 16 then kept
          else if kept.any (fun x => faultClass x.cause == .advisory) then
            kept.eraseP (fun x => faultClass x.cause == .advisory)
          else kept.tail) ++ [r]
        counter := if seq = 4294967295 then 0 else seq + 1
        retained := { s.flm.retained with escalate := true, escalations := count }
        u := false, m := false, held := 0, firstHeld := none }
      let urgent := if s.lnk.urgent.length < 4 then s.lnk.urgent ++ [⟨r, false⟩] else s.lnk.urgent
      (((s.setFlm f).setLnk { s.lnk with urgent := urgent }).enterSeqDown .off .restart (some .escalation)).close s)) ∧
  (∀ s : State, s.flm.watchdog = none → exec .watchdogExpiry s = .next s)

/-! ### The link -/

/-- A byte on the receive line, by the framer's phase, with the inter-byte timer run afresh from every byte outside HUNT; and the
link's other events: discarded frames, the inter-byte timer's expiry while it runs, HRDY, the start and the end of a frame (R168 to
R171, R173, R174). That SYNC leaves the timer as it stands is the model's reading (notes/assumptions/13.md). -/
def Obligations.LinkEvents : Prop :=
  (∀ (b : Byte) (s : State),
     let f := s.lnk.framer
     let put : Framer → State := fun f' => s.setLnk { s.lnk with framer := f' }
     let hunting := s.setLnk { s.lnk with framer := ⟨.hunt, [], [], 0, some 5⟩ }
     (f.phase = .hunt → exec (.receiveByte b) s = .next (if b = 0xD3 then put ⟨.header, [], [], 0, f.timer⟩ else s)) ∧
     (f.phase = .header → f.header.length < 2 → exec (.receiveByte b) s = .next (put { f with
       header := f.header ++ [b], sum := f.sum + b, timer := some 5 })) ∧
     (f.phase = .header → f.header.length = 2 → b.toNat ≤ 56 → exec (.receiveByte b) s = .next (put { f with
       phase := if b = 0 then .check else .payload, header := f.header ++ [b], sum := f.sum + b, timer := some 5 })) ∧
     (f.phase = .header → f.header.length = 2 → 56 < b.toNat → exec (.receiveByte b) s = .next
       ((hunting.report .linkCheck .link (some (((f.header.getD 0 0).toNat * 256 + 2 : Nat) : Int))).close s)) ∧
     (f.phase = .payload → exec (.receiveByte b) s = .next (put { f with
       phase := if f.payload.length + 1 < (f.header.getD 2 0).toNat then .payload else .check
       payload := f.payload ++ [b], sum := f.sum + b, timer := some 5 })) ∧
     (f.phase = .check → f.sum + b ≠ 0 → exec (.receiveByte b) s = .next
       ((hunting.report .linkCheck .link (some (((f.header.getD 0 0).toNat * 256 + 1 : Nat) : Int))).close s)) ∧
     (f.phase = .check → f.sum + b = 0 → exec (.receiveByte b) s = .next
       ((hunting.handleRequest (f.header.getD 0 0) (f.header.getD 1 0) f.payload).close s))) ∧
  (∀ (kind : Byte) (s : State),
    let hunting := s.setLnk { s.lnk with framer := ⟨.hunt, [], [], 0, some 5⟩ }
    exec (.badFrame kind .checkFailed) s = .next
      ((hunting.report .linkCheck .link (some ((kind.toNat * 256 + 1 : Nat) : Int))).close s) ∧
    exec (.badFrame kind .lengthAbove56) s = .next
      ((hunting.report .linkCheck .link (some ((kind.toNat * 256 + 2 : Nat) : Int))).close s) ∧
    exec .interByteTimerExpiry s = .next (
      if s.lnk.framer.timer = none then s
      else if s.lnk.framer.phase = .hunt then s.setLnk { s.lnk with framer := { s.lnk.framer with timer := none } }
      else s.setLnk { s.lnk with framer := ⟨.hunt, [], [], 0, none⟩ })) ∧
  (∀ s : State,
    exec .hrdyDeassert s = .next (s.setLnk { s.lnk with hrdy := false }) ∧
    exec .hrdyAssert s = .next (if s.lnk.tx.isSome then s.setLnk { s.lnk with hrdy := true }
      else ((s.setLnk { s.lnk with hrdy := true }).consult).close s) ∧
    exec .frameStart s = .next (if s.lnk.tx = none ∧ s.lnk.hrdy = true then s.consult.close s else s)) ∧
  (∀ (lines : PresenceLevels) (s : State), s.softResetBy (.frameEnd lines) = none →
    exec (.frameEnd lines) s = .next (if s.lnk.tx = none then s
      else ((s.setLnk { s.lnk with tx := none }).consult).close s))

/-- The arbiter: nothing starts from empty sources, from a busy transmitter or with HRDY deasserted; an URGENT notice goes first and
leaves the pointer; else the first phase from the pointer on whose source is non-empty is served and the pointer set past it; each
source gives its items. A KEYS frame that ends the stall offers the pending head; a NOTICE frame carries and clears the overrun flag,
and one that leaves 15 notices of 16 offers the action that waits. A placed notice takes the place of an unsent one of its coalescing key, else joins the tail, a full queue
giving up its oldest with the overrun flag set (R106, R108, R109, R124, R172 to R174, R176, R177, R190). -/
def Obligations.OutboundQueues : Prop :=
  (∀ s : State,
     (s.lnk.tx.isSome = true ∨ s.lnk.hrdy = false → s.consult = s) ∧
     (s.lnk.tx = none → s.lnk.hrdy = true →
       (∀ n rest, s.lnk.urgent = n :: rest → s.consult = s.setLnk { s.lnk with
         urgent := rest, tx := some ⟨frameBytes 0x41 0 (BitVec.ofNat 8 (if n.multiple then 2 else 0) :: faultRecordBytes n.record),
           false⟩ }) ∧
       (s.lnk.urgent = [] → (∀ src ∈ s.lnk.phases, s.holds src = false) → s.lnk.phases.length = 16 → s.consult = s) ∧
       (s.lnk.urgent = [] → ∀ k < 16, s.holds (s.lnk.phases.getD ((s.lnk.pointer + k) % 16) .reply) = true →
         (∀ j < k, s.holds (s.lnk.phases.getD ((s.lnk.pointer + j) % 16) .reply) = false) →
         let pointer := ((s.lnk.pointer + k) % 16 + 1) % 16
         s.consult.lnk.pointer = pointer ∧
         (match s.lnk.phases.getD ((s.lnk.pointer + k) % 16) .reply with
          | .reply => ∀ r rest, s.lnk.replies = r :: rest → s.consult = s.setLnk { s.lnk with
              replies := rest, pointer := pointer,
              tx := some ⟨frameBytes r.kind r.tag r.payload, r.kind == 0x9A && r.payload == [0]⟩ }
          | .key =>
            s.consult.lnk.tx = some ⟨frameBytes 0x40 0 (0 :: (s.mxs.queue.take 8).flatMap keyRecordBytes), false⟩ ∧
            (let left := s.mxs.queue.drop 8
             let u := (s.setLnk { s.lnk with pointer := pointer, tx := s.consult.lnk.tx }).setMxs { s.mxs with
               queue := left, stalled := s.mxs.stalled && decide (s.settingN .keyQLower < left.length) }
             (s.mxs.stalled = false ∨ s.settingN .keyQLower < left.length → s.consult = u) ∧
             (s.mxs.stalled = true → left.length ≤ s.settingN .keyQLower →
               s.consult = u.offerPending ∧ (s.mxs.pending = [] ∨ u.tryHandOff = none → s.consult = u) ∧
               ∀ v, u.tryHandOff = some v → s.hkm.queue ≠ [] ∨ v.tryAction = none → v.tryHandOff = none → s.consult = v))
          | .notice => ∀ n rest, s.lnk.notices = n :: rest →
            s.consult.lnk.tx = some ⟨frameBytes (BitVec.ofNat 8 (noticeKind n)) 0
              ((if s.lnk.overrun then 1 else 0) :: noticeBody n), false⟩ ∧
            (rest.length ≠ 15 → s.consult = s.setLnk { s.lnk with
              notices := rest, overrun := false, pointer := pointer, tx := s.consult.lnk.tx }) ∧
            (rest.length = 15 →
              let u := s.setLnk { s.lnk with
                notices := rest, overrun := false, pointer := pointer, tx := s.consult.lnk.tx }
              s.consult = u.offerAction ∧ (u.tryAction = none → s.consult = u) ∧
              ∀ v, u.tryAction = some v → v.tryAction = none → v.tryHandOff = none → s.consult = v))))) ∧
  (∀ (n : Notice) (l : Lnk),
     ((∃ x ∈ l.notices, n.sameKey x = true) → l.placeNotice n =
       { l with notices := l.notices.map (fun x => if n.sameKey x then n else x) }) ∧
     ((∀ x ∈ l.notices, n.sameKey x = false) → l.notices.length < 16 → l.placeNotice n = { l with notices := l.notices ++ [n] }) ∧
     ((∀ x ∈ l.notices, n.sameKey x = false) → 16 ≤ l.notices.length →
       l.placeNotice n = { l with notices := l.notices.drop 1 ++ [n], overrun := true }))

/-- The close of an event: a held start goes on where power permission holds and an input of it has changed; a resync that has come
due is run; the arbiter is consulted where an item has joined a source; nothing more happens where no item joined a source or the link cannot start, no permission input or poll
period changed and no resync came due; the poll timers take the periods that now apply; and the close never changes the time, the
inputs, the adapter, the thermal monitor, the bus operation list, the charge enables, the straps, the windows or HRDY, nor, but for
the held start, the PSQ (R28, R110, R135, R174). That these stand at the event's end is the model's reading (notes/assumptions/4.md). -/
def Obligations.CloseOfAnEvent : Prop :=
  ∀ s before : State,
    (s.permissionInputs = before.permissionInputs → (s.mxs.resyncDue = true → before.mxs.resyncDue = true) →
      (s.lnk.tx.isSome = true ∨ s.lnk.hrdy = false ∨ (s.lnk.urgent = before.lnk.urgent ∧
        s.lnk.replies = before.lnk.replies ∧ s.mxs.queue = before.mxs.queue ∧ s.lnk.notices = before.lnk.notices)) →
      (∀ p, pollPeriod s.psq.state (s.pack p) = pollPeriod before.psq.state (before.pack p)) → s.close before = s) ∧
    ((s.close before).psq = if s.psq.held.isSome = true ∧ s.permission = true ∧ s.permissionInputs ≠ before.permissionInputs then
      s.psq.risenFromOff (s.psq.startKind.getD .wake) else s.psq) ∧
    (s.permissionInputs = before.permissionInputs ∨ s.psq.held = none ∨ s.permission = false →
      (s.mxs.resyncDue = true → before.mxs.resyncDue = true) →
      ¬ (s.lnk.urgent = before.lnk.urgent ∧ s.lnk.replies = before.lnk.replies ∧ s.mxs.queue = before.mxs.queue ∧
        s.lnk.notices = before.lnk.notices) →
      (s.consult.mxs.resyncDue = true → before.mxs.resyncDue = true) →
      (∀ p, pollPeriod s.consult.psq.state (s.consult.pack p) = pollPeriod before.psq.state (before.pack p)) →
      s.close before = s.consult) ∧
    (s.permissionInputs = before.permissionInputs ∨ s.psq.held = none ∨ s.permission = false →
      s.mxs.resyncDue = true → before.mxs.resyncDue = false → s.mxs.keys.length = 144 → s.lnk.canStart = false →
      (∀ p, pollPeriod s.runResync.psq.state (s.runResync.pack p) = pollPeriod before.psq.state (before.pack p)) →
      s.close before = s.runResync) ∧
    (∀ p, ((s.close before).pack p).pollTimer =
      (match pollPeriod before.psq.state (before.pack p), pollPeriod (s.close before).psq.state ((s.close before).pack p) with
       | some old, some new => if old = new then (s.pack p).pollTimer else some new
       | _, _ => (s.pack p).pollTimer)) ∧
    ((s.close before).time = s.time ∧ (s.close before).pim = s.pim ∧ (s.close before).adn = s.adn ∧
      (s.close before).thm = s.thm ∧ (s.close before).pbc.ops = s.pbc.ops ∧ (s.close before).cbu.enable = s.cbu.enable ∧
      (s.close before).sst.straps = s.sst.straps ∧ (s.close before).hkm.windows = s.hkm.windows ∧
      (s.close before).lnk.hrdy = s.lnk.hrdy ∧ (s.close before).pending = s.pending)
end

