-- ==== Sys2Proof/Laws/State.lean ====
section
/-! SUPPORT. The state's updates, field by field, and the reads and writes of the per-pack, per-fan and per-sensor values and
of the settings. -/
namespace Sys2Proof.Machine

variable {α : Type}

section
variable (s : State) (x : Pim)
@[simp] theorem State.setPim_time : (s.setPim x).time = s.time := rfl
@[simp] theorem State.setPim_pim : (s.setPim x).pim = x := rfl
@[simp] theorem State.setPim_adn : (s.setPim x).adn = s.adn := rfl
@[simp] theorem State.setPim_pbc : (s.setPim x).pbc = s.pbc := rfl
@[simp] theorem State.setPim_cbu : (s.setPim x).cbu = s.cbu := rfl
@[simp] theorem State.setPim_thm : (s.setPim x).thm = s.thm := rfl
@[simp] theorem State.setPim_fnc : (s.setPim x).fnc = s.fnc := rfl
@[simp] theorem State.setPim_mxs : (s.setPim x).mxs = s.mxs := rfl
@[simp] theorem State.setPim_hkm : (s.setPim x).hkm = s.hkm := rfl
@[simp] theorem State.setPim_psq : (s.setPim x).psq = s.psq := rfl
@[simp] theorem State.setPim_flm : (s.setPim x).flm = s.flm := rfl
@[simp] theorem State.setPim_lnk : (s.setPim x).lnk = s.lnk := rfl
@[simp] theorem State.setPim_sst : (s.setPim x).sst = s.sst := rfl
@[simp] theorem State.setPim_outs : (s.setPim x).outs = s.outs := rfl
@[simp] theorem State.setPim_pending : (s.setPim x).pending = s.pending := rfl
@[simp] theorem State.setPim_self : s.setPim s.pim = s := rfl
@[simp] theorem State.setPim_setPim (y : Pim) : (s.setPim x).setPim y = s.setPim y := rfl
end

section
variable (s : State) (x : Adn)
@[simp] theorem State.setAdn_time : (s.setAdn x).time = s.time := rfl
@[simp] theorem State.setAdn_pim : (s.setAdn x).pim = s.pim := rfl
@[simp] theorem State.setAdn_adn : (s.setAdn x).adn = x := rfl
@[simp] theorem State.setAdn_pbc : (s.setAdn x).pbc = s.pbc := rfl
@[simp] theorem State.setAdn_cbu : (s.setAdn x).cbu = s.cbu := rfl
@[simp] theorem State.setAdn_thm : (s.setAdn x).thm = s.thm := rfl
@[simp] theorem State.setAdn_fnc : (s.setAdn x).fnc = s.fnc := rfl
@[simp] theorem State.setAdn_mxs : (s.setAdn x).mxs = s.mxs := rfl
@[simp] theorem State.setAdn_hkm : (s.setAdn x).hkm = s.hkm := rfl
@[simp] theorem State.setAdn_psq : (s.setAdn x).psq = s.psq := rfl
@[simp] theorem State.setAdn_flm : (s.setAdn x).flm = s.flm := rfl
@[simp] theorem State.setAdn_lnk : (s.setAdn x).lnk = s.lnk := rfl
@[simp] theorem State.setAdn_sst : (s.setAdn x).sst = s.sst := rfl
@[simp] theorem State.setAdn_outs : (s.setAdn x).outs = s.outs := rfl
@[simp] theorem State.setAdn_pending : (s.setAdn x).pending = s.pending := rfl
@[simp] theorem State.setAdn_self : s.setAdn s.adn = s := rfl
@[simp] theorem State.setAdn_setAdn (y : Adn) : (s.setAdn x).setAdn y = s.setAdn y := rfl
end

section
variable (s : State) (x : Pbc)
@[simp] theorem State.setPbc_time : (s.setPbc x).time = s.time := rfl
@[simp] theorem State.setPbc_pim : (s.setPbc x).pim = s.pim := rfl
@[simp] theorem State.setPbc_adn : (s.setPbc x).adn = s.adn := rfl
@[simp] theorem State.setPbc_pbc : (s.setPbc x).pbc = x := rfl
@[simp] theorem State.setPbc_cbu : (s.setPbc x).cbu = s.cbu := rfl
@[simp] theorem State.setPbc_thm : (s.setPbc x).thm = s.thm := rfl
@[simp] theorem State.setPbc_fnc : (s.setPbc x).fnc = s.fnc := rfl
@[simp] theorem State.setPbc_mxs : (s.setPbc x).mxs = s.mxs := rfl
@[simp] theorem State.setPbc_hkm : (s.setPbc x).hkm = s.hkm := rfl
@[simp] theorem State.setPbc_psq : (s.setPbc x).psq = s.psq := rfl
@[simp] theorem State.setPbc_flm : (s.setPbc x).flm = s.flm := rfl
@[simp] theorem State.setPbc_lnk : (s.setPbc x).lnk = s.lnk := rfl
@[simp] theorem State.setPbc_sst : (s.setPbc x).sst = s.sst := rfl
@[simp] theorem State.setPbc_outs : (s.setPbc x).outs = s.outs := rfl
@[simp] theorem State.setPbc_pending : (s.setPbc x).pending = s.pending := rfl
@[simp] theorem State.setPbc_self : s.setPbc s.pbc = s := rfl
@[simp] theorem State.setPbc_setPbc (y : Pbc) : (s.setPbc x).setPbc y = s.setPbc y := rfl
end

section
variable (s : State) (x : Cbu)
@[simp] theorem State.setCbu_time : (s.setCbu x).time = s.time := rfl
@[simp] theorem State.setCbu_pim : (s.setCbu x).pim = s.pim := rfl
@[simp] theorem State.setCbu_adn : (s.setCbu x).adn = s.adn := rfl
@[simp] theorem State.setCbu_pbc : (s.setCbu x).pbc = s.pbc := rfl
@[simp] theorem State.setCbu_cbu : (s.setCbu x).cbu = x := rfl
@[simp] theorem State.setCbu_thm : (s.setCbu x).thm = s.thm := rfl
@[simp] theorem State.setCbu_fnc : (s.setCbu x).fnc = s.fnc := rfl
@[simp] theorem State.setCbu_mxs : (s.setCbu x).mxs = s.mxs := rfl
@[simp] theorem State.setCbu_hkm : (s.setCbu x).hkm = s.hkm := rfl
@[simp] theorem State.setCbu_psq : (s.setCbu x).psq = s.psq := rfl
@[simp] theorem State.setCbu_flm : (s.setCbu x).flm = s.flm := rfl
@[simp] theorem State.setCbu_lnk : (s.setCbu x).lnk = s.lnk := rfl
@[simp] theorem State.setCbu_sst : (s.setCbu x).sst = s.sst := rfl
@[simp] theorem State.setCbu_outs : (s.setCbu x).outs = s.outs := rfl
@[simp] theorem State.setCbu_pending : (s.setCbu x).pending = s.pending := rfl
@[simp] theorem State.setCbu_self : s.setCbu s.cbu = s := rfl
@[simp] theorem State.setCbu_setCbu (y : Cbu) : (s.setCbu x).setCbu y = s.setCbu y := rfl
end

section
variable (s : State) (x : Thm)
@[simp] theorem State.setThm_time : (s.setThm x).time = s.time := rfl
@[simp] theorem State.setThm_pim : (s.setThm x).pim = s.pim := rfl
@[simp] theorem State.setThm_adn : (s.setThm x).adn = s.adn := rfl
@[simp] theorem State.setThm_pbc : (s.setThm x).pbc = s.pbc := rfl
@[simp] theorem State.setThm_cbu : (s.setThm x).cbu = s.cbu := rfl
@[simp] theorem State.setThm_thm : (s.setThm x).thm = x := rfl
@[simp] theorem State.setThm_fnc : (s.setThm x).fnc = s.fnc := rfl
@[simp] theorem State.setThm_mxs : (s.setThm x).mxs = s.mxs := rfl
@[simp] theorem State.setThm_hkm : (s.setThm x).hkm = s.hkm := rfl
@[simp] theorem State.setThm_psq : (s.setThm x).psq = s.psq := rfl
@[simp] theorem State.setThm_flm : (s.setThm x).flm = s.flm := rfl
@[simp] theorem State.setThm_lnk : (s.setThm x).lnk = s.lnk := rfl
@[simp] theorem State.setThm_sst : (s.setThm x).sst = s.sst := rfl
@[simp] theorem State.setThm_outs : (s.setThm x).outs = s.outs := rfl
@[simp] theorem State.setThm_pending : (s.setThm x).pending = s.pending := rfl
@[simp] theorem State.setThm_self : s.setThm s.thm = s := rfl
@[simp] theorem State.setThm_setThm (y : Thm) : (s.setThm x).setThm y = s.setThm y := rfl
end

section
variable (s : State) (x : Fnc)
@[simp] theorem State.setFnc_time : (s.setFnc x).time = s.time := rfl
@[simp] theorem State.setFnc_pim : (s.setFnc x).pim = s.pim := rfl
@[simp] theorem State.setFnc_adn : (s.setFnc x).adn = s.adn := rfl
@[simp] theorem State.setFnc_pbc : (s.setFnc x).pbc = s.pbc := rfl
@[simp] theorem State.setFnc_cbu : (s.setFnc x).cbu = s.cbu := rfl
@[simp] theorem State.setFnc_thm : (s.setFnc x).thm = s.thm := rfl
@[simp] theorem State.setFnc_fnc : (s.setFnc x).fnc = x := rfl
@[simp] theorem State.setFnc_mxs : (s.setFnc x).mxs = s.mxs := rfl
@[simp] theorem State.setFnc_hkm : (s.setFnc x).hkm = s.hkm := rfl
@[simp] theorem State.setFnc_psq : (s.setFnc x).psq = s.psq := rfl
@[simp] theorem State.setFnc_flm : (s.setFnc x).flm = s.flm := rfl
@[simp] theorem State.setFnc_lnk : (s.setFnc x).lnk = s.lnk := rfl
@[simp] theorem State.setFnc_sst : (s.setFnc x).sst = s.sst := rfl
@[simp] theorem State.setFnc_outs : (s.setFnc x).outs = s.outs := rfl
@[simp] theorem State.setFnc_pending : (s.setFnc x).pending = s.pending := rfl
@[simp] theorem State.setFnc_self : s.setFnc s.fnc = s := rfl
@[simp] theorem State.setFnc_setFnc (y : Fnc) : (s.setFnc x).setFnc y = s.setFnc y := rfl
end

section
variable (s : State) (x : Mxs)
@[simp] theorem State.setMxs_time : (s.setMxs x).time = s.time := rfl
@[simp] theorem State.setMxs_pim : (s.setMxs x).pim = s.pim := rfl
@[simp] theorem State.setMxs_adn : (s.setMxs x).adn = s.adn := rfl
@[simp] theorem State.setMxs_pbc : (s.setMxs x).pbc = s.pbc := rfl
@[simp] theorem State.setMxs_cbu : (s.setMxs x).cbu = s.cbu := rfl
@[simp] theorem State.setMxs_thm : (s.setMxs x).thm = s.thm := rfl
@[simp] theorem State.setMxs_fnc : (s.setMxs x).fnc = s.fnc := rfl
@[simp] theorem State.setMxs_mxs : (s.setMxs x).mxs = x := rfl
@[simp] theorem State.setMxs_hkm : (s.setMxs x).hkm = s.hkm := rfl
@[simp] theorem State.setMxs_psq : (s.setMxs x).psq = s.psq := rfl
@[simp] theorem State.setMxs_flm : (s.setMxs x).flm = s.flm := rfl
@[simp] theorem State.setMxs_lnk : (s.setMxs x).lnk = s.lnk := rfl
@[simp] theorem State.setMxs_sst : (s.setMxs x).sst = s.sst := rfl
@[simp] theorem State.setMxs_outs : (s.setMxs x).outs = s.outs := rfl
@[simp] theorem State.setMxs_pending : (s.setMxs x).pending = s.pending := rfl
@[simp] theorem State.setMxs_self : s.setMxs s.mxs = s := rfl
@[simp] theorem State.setMxs_setMxs (y : Mxs) : (s.setMxs x).setMxs y = s.setMxs y := rfl
end

section
variable (s : State) (x : Hkm)
@[simp] theorem State.setHkm_time : (s.setHkm x).time = s.time := rfl
@[simp] theorem State.setHkm_pim : (s.setHkm x).pim = s.pim := rfl
@[simp] theorem State.setHkm_adn : (s.setHkm x).adn = s.adn := rfl
@[simp] theorem State.setHkm_pbc : (s.setHkm x).pbc = s.pbc := rfl
@[simp] theorem State.setHkm_cbu : (s.setHkm x).cbu = s.cbu := rfl
@[simp] theorem State.setHkm_thm : (s.setHkm x).thm = s.thm := rfl
@[simp] theorem State.setHkm_fnc : (s.setHkm x).fnc = s.fnc := rfl
@[simp] theorem State.setHkm_mxs : (s.setHkm x).mxs = s.mxs := rfl
@[simp] theorem State.setHkm_hkm : (s.setHkm x).hkm = x := rfl
@[simp] theorem State.setHkm_psq : (s.setHkm x).psq = s.psq := rfl
@[simp] theorem State.setHkm_flm : (s.setHkm x).flm = s.flm := rfl
@[simp] theorem State.setHkm_lnk : (s.setHkm x).lnk = s.lnk := rfl
@[simp] theorem State.setHkm_sst : (s.setHkm x).sst = s.sst := rfl
@[simp] theorem State.setHkm_outs : (s.setHkm x).outs = s.outs := rfl
@[simp] theorem State.setHkm_pending : (s.setHkm x).pending = s.pending := rfl
@[simp] theorem State.setHkm_self : s.setHkm s.hkm = s := rfl
@[simp] theorem State.setHkm_setHkm (y : Hkm) : (s.setHkm x).setHkm y = s.setHkm y := rfl
end

section
variable (s : State) (x : Psq)
@[simp] theorem State.setPsq_time : (s.setPsq x).time = s.time := rfl
@[simp] theorem State.setPsq_pim : (s.setPsq x).pim = s.pim := rfl
@[simp] theorem State.setPsq_adn : (s.setPsq x).adn = s.adn := rfl
@[simp] theorem State.setPsq_pbc : (s.setPsq x).pbc = s.pbc := rfl
@[simp] theorem State.setPsq_cbu : (s.setPsq x).cbu = s.cbu := rfl
@[simp] theorem State.setPsq_thm : (s.setPsq x).thm = s.thm := rfl
@[simp] theorem State.setPsq_fnc : (s.setPsq x).fnc = s.fnc := rfl
@[simp] theorem State.setPsq_mxs : (s.setPsq x).mxs = s.mxs := rfl
@[simp] theorem State.setPsq_hkm : (s.setPsq x).hkm = s.hkm := rfl
@[simp] theorem State.setPsq_psq : (s.setPsq x).psq = x := rfl
@[simp] theorem State.setPsq_flm : (s.setPsq x).flm = s.flm := rfl
@[simp] theorem State.setPsq_lnk : (s.setPsq x).lnk = s.lnk := rfl
@[simp] theorem State.setPsq_sst : (s.setPsq x).sst = s.sst := rfl
@[simp] theorem State.setPsq_outs : (s.setPsq x).outs = s.outs := rfl
@[simp] theorem State.setPsq_pending : (s.setPsq x).pending = s.pending := rfl
@[simp] theorem State.setPsq_self : s.setPsq s.psq = s := rfl
@[simp] theorem State.setPsq_setPsq (y : Psq) : (s.setPsq x).setPsq y = s.setPsq y := rfl
end

section
variable (s : State) (x : Flm)
@[simp] theorem State.setFlm_time : (s.setFlm x).time = s.time := rfl
@[simp] theorem State.setFlm_pim : (s.setFlm x).pim = s.pim := rfl
@[simp] theorem State.setFlm_adn : (s.setFlm x).adn = s.adn := rfl
@[simp] theorem State.setFlm_pbc : (s.setFlm x).pbc = s.pbc := rfl
@[simp] theorem State.setFlm_cbu : (s.setFlm x).cbu = s.cbu := rfl
@[simp] theorem State.setFlm_thm : (s.setFlm x).thm = s.thm := rfl
@[simp] theorem State.setFlm_fnc : (s.setFlm x).fnc = s.fnc := rfl
@[simp] theorem State.setFlm_mxs : (s.setFlm x).mxs = s.mxs := rfl
@[simp] theorem State.setFlm_hkm : (s.setFlm x).hkm = s.hkm := rfl
@[simp] theorem State.setFlm_psq : (s.setFlm x).psq = s.psq := rfl
@[simp] theorem State.setFlm_flm : (s.setFlm x).flm = x := rfl
@[simp] theorem State.setFlm_lnk : (s.setFlm x).lnk = s.lnk := rfl
@[simp] theorem State.setFlm_sst : (s.setFlm x).sst = s.sst := rfl
@[simp] theorem State.setFlm_outs : (s.setFlm x).outs = s.outs := rfl
@[simp] theorem State.setFlm_pending : (s.setFlm x).pending = s.pending := rfl
@[simp] theorem State.setFlm_self : s.setFlm s.flm = s := rfl
@[simp] theorem State.setFlm_setFlm (y : Flm) : (s.setFlm x).setFlm y = s.setFlm y := rfl
end

section
variable (s : State) (x : Lnk)
@[simp] theorem State.setLnk_time : (s.setLnk x).time = s.time := rfl
@[simp] theorem State.setLnk_pim : (s.setLnk x).pim = s.pim := rfl
@[simp] theorem State.setLnk_adn : (s.setLnk x).adn = s.adn := rfl
@[simp] theorem State.setLnk_pbc : (s.setLnk x).pbc = s.pbc := rfl
@[simp] theorem State.setLnk_cbu : (s.setLnk x).cbu = s.cbu := rfl
@[simp] theorem State.setLnk_thm : (s.setLnk x).thm = s.thm := rfl
@[simp] theorem State.setLnk_fnc : (s.setLnk x).fnc = s.fnc := rfl
@[simp] theorem State.setLnk_mxs : (s.setLnk x).mxs = s.mxs := rfl
@[simp] theorem State.setLnk_hkm : (s.setLnk x).hkm = s.hkm := rfl
@[simp] theorem State.setLnk_psq : (s.setLnk x).psq = s.psq := rfl
@[simp] theorem State.setLnk_flm : (s.setLnk x).flm = s.flm := rfl
@[simp] theorem State.setLnk_lnk : (s.setLnk x).lnk = x := rfl
@[simp] theorem State.setLnk_sst : (s.setLnk x).sst = s.sst := rfl
@[simp] theorem State.setLnk_outs : (s.setLnk x).outs = s.outs := rfl
@[simp] theorem State.setLnk_pending : (s.setLnk x).pending = s.pending := rfl
@[simp] theorem State.setLnk_self : s.setLnk s.lnk = s := rfl
@[simp] theorem State.setLnk_setLnk (y : Lnk) : (s.setLnk x).setLnk y = s.setLnk y := rfl
end

section
variable (s : State) (x : Sst)
@[simp] theorem State.setSst_time : (s.setSst x).time = s.time := rfl
@[simp] theorem State.setSst_pim : (s.setSst x).pim = s.pim := rfl
@[simp] theorem State.setSst_adn : (s.setSst x).adn = s.adn := rfl
@[simp] theorem State.setSst_pbc : (s.setSst x).pbc = s.pbc := rfl
@[simp] theorem State.setSst_cbu : (s.setSst x).cbu = s.cbu := rfl
@[simp] theorem State.setSst_thm : (s.setSst x).thm = s.thm := rfl
@[simp] theorem State.setSst_fnc : (s.setSst x).fnc = s.fnc := rfl
@[simp] theorem State.setSst_mxs : (s.setSst x).mxs = s.mxs := rfl
@[simp] theorem State.setSst_hkm : (s.setSst x).hkm = s.hkm := rfl
@[simp] theorem State.setSst_psq : (s.setSst x).psq = s.psq := rfl
@[simp] theorem State.setSst_flm : (s.setSst x).flm = s.flm := rfl
@[simp] theorem State.setSst_lnk : (s.setSst x).lnk = s.lnk := rfl
@[simp] theorem State.setSst_sst : (s.setSst x).sst = x := rfl
@[simp] theorem State.setSst_outs : (s.setSst x).outs = s.outs := rfl
@[simp] theorem State.setSst_pending : (s.setSst x).pending = s.pending := rfl
@[simp] theorem State.setSst_self : s.setSst s.sst = s := rfl
@[simp] theorem State.setSst_setSst (y : Sst) : (s.setSst x).setSst y = s.setSst y := rfl
end

section
variable (s : State) (x : List Instr)
@[simp] theorem State.setPending_time : (s.setPending x).time = s.time := rfl
@[simp] theorem State.setPending_pim : (s.setPending x).pim = s.pim := rfl
@[simp] theorem State.setPending_adn : (s.setPending x).adn = s.adn := rfl
@[simp] theorem State.setPending_pbc : (s.setPending x).pbc = s.pbc := rfl
@[simp] theorem State.setPending_cbu : (s.setPending x).cbu = s.cbu := rfl
@[simp] theorem State.setPending_thm : (s.setPending x).thm = s.thm := rfl
@[simp] theorem State.setPending_fnc : (s.setPending x).fnc = s.fnc := rfl
@[simp] theorem State.setPending_mxs : (s.setPending x).mxs = s.mxs := rfl
@[simp] theorem State.setPending_hkm : (s.setPending x).hkm = s.hkm := rfl
@[simp] theorem State.setPending_psq : (s.setPending x).psq = s.psq := rfl
@[simp] theorem State.setPending_flm : (s.setPending x).flm = s.flm := rfl
@[simp] theorem State.setPending_lnk : (s.setPending x).lnk = s.lnk := rfl
@[simp] theorem State.setPending_sst : (s.setPending x).sst = s.sst := rfl
@[simp] theorem State.setPending_outs : (s.setPending x).outs = s.outs := rfl
@[simp] theorem State.setPending_pending : (s.setPending x).pending = x := rfl
@[simp] theorem State.setPending_self : s.setPending s.pending = s := rfl
@[simp] theorem State.setPending_setPending (y : List Instr) : (s.setPending x).setPending y = s.setPending y := rfl
end

section
variable (s : State) (ws : List OutputWrite)
@[simp] theorem State.emit_time : (s.emit ws).time = s.time := rfl
@[simp] theorem State.emit_pim : (s.emit ws).pim = s.pim := rfl
@[simp] theorem State.emit_adn : (s.emit ws).adn = s.adn := rfl
@[simp] theorem State.emit_pbc : (s.emit ws).pbc = s.pbc := rfl
@[simp] theorem State.emit_cbu : (s.emit ws).cbu = s.cbu := rfl
@[simp] theorem State.emit_thm : (s.emit ws).thm = s.thm := rfl
@[simp] theorem State.emit_fnc : (s.emit ws).fnc = s.fnc := rfl
@[simp] theorem State.emit_mxs : (s.emit ws).mxs = s.mxs := rfl
@[simp] theorem State.emit_hkm : (s.emit ws).hkm = s.hkm := rfl
@[simp] theorem State.emit_psq : (s.emit ws).psq = s.psq := rfl
@[simp] theorem State.emit_flm : (s.emit ws).flm = s.flm := rfl
@[simp] theorem State.emit_lnk : (s.emit ws).lnk = s.lnk := rfl
@[simp] theorem State.emit_sst : (s.emit ws).sst = s.sst := rfl
@[simp] theorem State.emit_outs : (s.emit ws).outs = s.outs ++ ws := rfl
@[simp] theorem State.emit_pending : (s.emit ws).pending = s.pending := rfl
end

@[simp] theorem PerPack.get_set_self (x : PerPack α) (p : PackId) (v : α) : (x.set p v).get p = v := by cases p <;> rfl

theorem PerPack.get_set_other (x : PerPack α) (p q : PackId) (v : α) (h : p ≠ q) : (x.set p v).get q = x.get q := by cases p <;> cases q <;> simp_all [PerPack.get, PerPack.set]

@[simp] theorem PerFan.get_set_self (x : PerFan α) (p : FanId) (v : α) : (x.set p v).get p = v := by cases p <;> rfl

theorem PerFan.get_set_other (x : PerFan α) (p q : FanId) (v : α) (h : p ≠ q) : (x.set p v).get q = x.get q := by cases p <;> cases q <;> simp_all [PerFan.get, PerFan.set]

@[simp] theorem PerSensor.get_set_self (x : PerSensor α) (p : Fin 4) (v : α) : (x.set p v).get p = v := by match p with | 0 => rfl | 1 => rfl | 2 => rfl | 3 => rfl

theorem PerSensor.get_set_other (x : PerSensor α) (p q : Fin 4) (v : α) (h : p ≠ q) : (x.set p v).get q = x.get q := by
  match p, q, h with
  | 0, 1, _ => rfl | 0, 2, _ => rfl | 0, 3, _ => rfl
  | 1, 0, _ => rfl | 1, 2, _ => rfl | 1, 3, _ => rfl
  | 2, 0, _ => rfl | 2, 1, _ => rfl | 2, 3, _ => rfl
  | 3, 0, _ => rfl | 3, 1, _ => rfl | 3, 2, _ => rfl
  | 0, 0, h => exact absurd rfl h
  | 1, 1, h => exact absurd rfl h
  | 2, 2, h => exact absurd rfl h
  | 3, 3, h => exact absurd rfl h

@[simp] theorem State.setPack_pack_self (s : State) (p : PackId) (k : Pack) : (s.setPack p k).pack p = k := by
  cases p <;> rfl

theorem State.setPack_pack_other (s : State) (p q : PackId) (k : Pack) (h : p ≠ q) : (s.setPack p k).pack q = s.pack q := by
  cases p <;> cases q <;> first | rfl | exact absurd rfl h

@[simp] theorem State.setPack_ops (s : State) (p : PackId) (k : Pack) : (s.setPack p k).pbc.ops = s.pbc.ops := rfl

@[simp] theorem State.setPack_busTimer (s : State) (p : PackId) (k : Pack) : (s.setPack p k).pbc.busTimer = s.pbc.busTimer := rfl

@[simp] theorem State.setPack_connected (s : State) (p : PackId) (k : Pack) : (s.setPack p k).pbc.connected = s.pbc.connected := rfl

section
variable (s : State) (p : PackId) (k : Pack)
@[simp] theorem State.setPack_time : (s.setPack p k).time = s.time := rfl
@[simp] theorem State.setPack_pim : (s.setPack p k).pim = s.pim := rfl
@[simp] theorem State.setPack_adn : (s.setPack p k).adn = s.adn := rfl
@[simp] theorem State.setPack_cbu : (s.setPack p k).cbu = s.cbu := rfl
@[simp] theorem State.setPack_thm : (s.setPack p k).thm = s.thm := rfl
@[simp] theorem State.setPack_fnc : (s.setPack p k).fnc = s.fnc := rfl
@[simp] theorem State.setPack_mxs : (s.setPack p k).mxs = s.mxs := rfl
@[simp] theorem State.setPack_hkm : (s.setPack p k).hkm = s.hkm := rfl
@[simp] theorem State.setPack_psq : (s.setPack p k).psq = s.psq := rfl
@[simp] theorem State.setPack_flm : (s.setPack p k).flm = s.flm := rfl
@[simp] theorem State.setPack_lnk : (s.setPack p k).lnk = s.lnk := rfl
@[simp] theorem State.setPack_sst : (s.setPack p k).sst = s.sst := rfl
@[simp] theorem State.setPack_outs : (s.setPack p k).outs = s.outs := rfl
@[simp] theorem State.setPack_pending : (s.setPack p k).pending = s.pending := rfl
end

/-- Reading the setting just written gives what was written (R182). -/
@[simp] theorem Settings.get_set_self (c : Settings) (i : SettingId) (v : Int) : (c.set i v).get i = v := by
  cases i <;> rfl

/-- A write leaves every other setting as it stood (R182). -/
theorem Settings.get_set_other (c : Settings) (i j : SettingId) (v : Int) (h : i ≠ j) : (c.set i v).get j = c.get j := by
  cases i <;> cases j <;> first | rfl | exact absurd rfl h

/-- Settings are equal where every identifier reads equal. -/
theorem Settings.ext_get (c d : Settings) (h : ∀ i, c.get i = d.get i) : c = d := by
  cases c; cases d
  simp only [Settings.mk.injEq]
  exact ⟨h .efficiency, h .powerCapMw, h .adapterVMin, h .adapterVMax, h .legacyMw, h .reserveMw, h .packWeightA,
    h .packWeightB, h .packImaxA, h .packImaxB, h .chargeLimit, h .packLowPct, h .packCritPct, h .derateStart, h .derateEnd,
    h .thermUrgent, h .thermCrit, h .sensorInclude, h .sensorOffset0, h .sensorOffset1, h .sensorOffset2, h .sensorOffset3,
    h .fanHyst, h .fanMinDuty, h .fanStallRpm, h .quietCap, h .quietOverrideTemp, h .boostStep, h .debouncePasses,
    h .scanIntervalUs, h .keyQUpper, h .keyQLower, h .bootMinPct, h .buttonHoldMs, h .lidAction, h .lidDelayS, h .wakeMask,
    h .watchdogS, h .advisoryNotices⟩

end Sys2Proof.Machine
end

