-- ==== Sys2Proof/Laws/Ops.lean ====
section
/-! SUPPORT. What the shared operations can do, said once for each: placing notices, urgent notices and replies; the bus
operation list; fault reports and the latch; the rails; the charge budget's evaluation; the arbiter; offers of the action head; SEQ_DOWN's entry; the framer's timer. -/
namespace Sys2Proof.Machine

/-! ### Placing notices, urgent notices and replies -/

/-- A placed notice replaces the unsent one of its key, or joins a queue with room, or takes the place the oldest gives up with
the overrun flag set (R176). -/
theorem Lnk.placeNotice_cases (l : Lnk) (n : Notice) :
    (l.notices.any n.sameKey = true ∧
      l.placeNotice n = { l with notices := l.notices.map (fun x => if n.sameKey x then n else x) }) ∨
    (l.notices.any n.sameKey = false ∧ l.notices.length < Config.noticeCapacity ∧
      l.placeNotice n = { l with notices := l.notices ++ [n] }) ∨
    (l.notices.any n.sameKey = false ∧ Config.noticeCapacity ≤ l.notices.length ∧
      l.placeNotice n = { l with notices := l.notices.tail ++ [n], overrun := true }) := by
  unfold Lnk.placeNotice Lnk.appendNotice
  cases h : l.notices.any n.sameKey
  · by_cases hc : Config.noticeCapacity ≤ l.notices.length
    · exact .inr (.inr ⟨rfl, hc, by simp [hc]⟩)
    · exact .inr (.inl ⟨rfl, Nat.lt_of_not_le hc, by simp [hc]⟩)
  · exact .inl ⟨rfl, by simp⟩

/-- Placing a notice changes the notice queue and the overrun flag alone. -/
theorem Lnk.placeNotice_frame (l : Lnk) (n : Notice) :
    ∃ q o, l.placeNotice n = { l with notices := q, overrun := o } := by
  obtain ⟨_, h⟩ | ⟨_, _, h⟩ | ⟨_, _, h⟩ := l.placeNotice_cases n
  · exact ⟨_, l.overrun, h⟩
  · exact ⟨_, l.overrun, h⟩
  · exact ⟨_, true, h⟩

/-- Placing an URGENT notice appends it to a list with room, and does nothing to a full one (R157, R177). -/
theorem Lnk.placeUrgent_cases (l : Lnk) (n : UrgentNotice) :
    (l.urgent.length < Config.urgentCapacity ∧ l.placeUrgent n = { l with urgent := l.urgent ++ [n] }) ∨
    (Config.urgentCapacity ≤ l.urgent.length ∧ l.placeUrgent n = l) := by
  unfold Lnk.placeUrgent
  by_cases h : l.urgent.length < Config.urgentCapacity
  · exact .inl ⟨h, by simp [h]⟩
  · exact .inr ⟨Nat.le_of_not_lt h, by simp [h]⟩

/-- A reply joins the tail of the reply queue, and nothing else changes (R172). -/
theorem State.reply_eq (s : State) (kind : Nat) (tag : Byte) (st : Status) (content : List Byte) :
    s.reply kind tag st content =
      s.setLnk { s.lnk with replies := s.lnk.replies ++ [replyTo kind tag st content] } := rfl

@[simp] theorem State.reply_pbc (s : State) (k : Nat) (g : Byte) (st : Status) (c : List Byte) :
    (s.reply k g st c).pbc = s.pbc := rfl
@[simp] theorem State.reply_replies (s : State) (k : Nat) (g : Byte) (st : Status) (c : List Byte) :
    (s.reply k g st c).lnk.replies = s.lnk.replies ++ [replyTo k g st c] := rfl
@[simp] theorem State.notice_pbc (s : State) (n : Notice) : (s.notice n).pbc = s.pbc := rfl
@[simp] theorem State.notice_flm (s : State) (n : Notice) : (s.notice n).flm = s.flm := rfl
@[simp] theorem State.notice_psq (s : State) (n : Notice) : (s.notice n).psq = s.psq := rfl
@[simp] theorem State.notice_cbu (s : State) (n : Notice) : (s.notice n).cbu = s.cbu := rfl
@[simp] theorem State.notice_mxs (s : State) (n : Notice) : (s.notice n).mxs = s.mxs := rfl

/-! ### The bus operation list -/

/-- An operation joins the tail; it starts where the list was empty (R27). -/
theorem State.appendOp_cases (s : State) (o : BusOp) :
    (s.pbc.ops = [] ∧ s.appendOp o =
      (s.setPbc { s.pbc with ops := [o], busTimer := some responseMs }).emit
        [.packBusRead o.pack o.kind.request.1 o.kind.request.2]) ∨
    (s.pbc.ops ≠ [] ∧ s.appendOp o = s.setPbc { s.pbc with ops := s.pbc.ops ++ [o] }) := by
  unfold State.appendOp
  cases h : s.pbc.ops with
  | nil => exact .inl ⟨rfl, rfl⟩
  | cons x xs => exact .inr ⟨by simp, rfl⟩

/-- The list once the head has left and the next operation, if any, has started (R27). -/
theorem State.finishHead_ops (s : State) : s.finishHead.pbc.ops = s.pbc.ops.tail := by
  unfold State.finishHead State.startHead
  cases s.pbc.ops.tail <;> simp

/-- After the head leaves, the response timer runs exactly while an operation is listed (R26, R27). -/
theorem State.finishHead_busTimer (s : State) :
    s.finishHead.pbc.busTimer = if s.pbc.ops.tail = [] then none else some responseMs := by
  unfold State.finishHead State.startHead
  cases s.pbc.ops.tail <;> simp

/-- The head's departure leaves the pack records and the connected set. -/
theorem State.finishHead_packs (s : State) :
    s.finishHead.pbc.packs = s.pbc.packs ∧ s.finishHead.pbc.connected = s.pbc.connected := by
  unfold State.finishHead State.startHead
  cases s.pbc.ops.tail <;> simp

/-! ### Fault reports (R153 to R158) -/

/-- The entry written is the entry read, for every source of the mark table. -/
theorem Flm.mark_setMark (f : Flm) (src : Source) (c : Option FaultCause) (h : sourceCode src < f.marks.length) :
    (f.setMark src c).mark src = c := by
  simp [Flm.mark, Flm.setMark, List.getD, h]

/-- The other entries of the mark table stand. -/
theorem Flm.mark_setMark_other (f : Flm) (src src' : Source) (c : Option FaultCause) (h : sourceCode src ≠ sourceCode src') :
    (f.setMark src c).mark src' = f.mark src' := by
  simp [Flm.mark, Flm.setMark, List.getD, List.getElem?_set_ne h]

/-- Logging a record: it is the log's newest, and the log keeps its bound (R155). -/
theorem Flm.append_newest (f : Flm) (r : FaultRecord) : (f.append r).log.getLast? = some r := by
  simp [Flm.append]

theorem State.setFlm_setLnk_self (s : State) (f : Flm) : s.setFlm f = (s.setFlm f).setLnk s.lnk := rfl

/-- Advisory handling touches the FLM and the LNK alone (R158). -/
theorem State.handleAdvisory_frame (s : State) (r : FaultRecord) :
    ∃ f l, s.handleAdvisory r = (s.setFlm f).setLnk l := by
  unfold State.handleAdvisory
  split
  · exact ⟨s.flm, s.lnk, rfl⟩
  · split
    · exact ⟨_, s.lnk, s.setFlm_setLnk_self _⟩
    · exact ⟨s.flm, _, rfl⟩

/-- A report touches the FLM and the LNK alone, but for the protective action of a PROTECT report (R153). -/
theorem State.reportLogged_frame (s : State) (c : FaultCause) (src : Source) (d : Option Int) :
    ∃ f l, s.reportLogged c src d = (s.setFlm f).setLnk l := by
  unfold State.reportLogged
  split
  · exact ⟨s.flm, s.lnk, rfl⟩
  · simp only
    split
    · exact ⟨_, _, rfl⟩
    · exact ⟨_, _, rfl⟩
    · obtain ⟨f, l, h⟩ := (s.logReport c src (s.makeRecord c src d)).handleAdvisory_frame (s.makeRecord c src d)
      exact ⟨f, l, h⟩
    · exact ⟨_, s.lnk, s.setFlm_setLnk_self _⟩

/-- A report of a cause that is no PROTECT cause is its logging (R153). -/
theorem State.report_of_not_protect (s : State) (c : FaultCause) (src : Source) (d : Option Int)
    (h : protectCauseOf c = none) : s.report c src d = s.reportLogged c src d := by
  simp [State.report, h]

/-- A cause-clear test writes the latch alone (R161). -/
theorem State.clearTest_frame (s : State) (c : ProtectCause) :
    ∃ l, s.clearTest c = s.setFlm { s.flm with latch := l } := by
  unfold State.clearTest
  split
  · exact ⟨_, rfl⟩
  · exact ⟨s.flm.latch, rfl⟩

/-- A cause-clear test neither sets nor releases the latch (R161). -/
theorem State.clearTest_isSet (s : State) (c : ProtectCause) : (s.clearTest c).flm.latch.isSet = s.flm.latch.isSet := by
  unfold State.clearTest
  split
  · cases c <;> simp [Latch.clearCause, Latch.isSet]
  · rfl

/-! ### Rails and HRST -/

/-- MAIN written: the enable line is driven where it changes, and nothing else changes. -/
theorem State.setMain_psq (s : State) (on : Bool) : (s.setMain on).psq = { s.psq with mainOn := on } := rfl
theorem State.setCore_psq (s : State) (on : Bool) : (s.setCore on).psq = { s.psq with coreOn := on } := rfl
theorem State.setHrst_psq (s : State) (on : Bool) : (s.setHrst on).psq = { s.psq with hrst := on } := rfl

/-! ### The evaluation (R50 to R55) -/

/-- The working-state decision writes one pack's state alone, between working states (R35). -/
theorem State.decidePack_cases (s : State) (p : PackId) :
    ((s.pack p).state.working = true ∧ s.decidePack p = s.setPack p { s.pack p with state := s.workingState p }) ∨
    ((s.pack p).state.working = false ∧ s.decidePack p = s) := by
  unfold State.decidePack
  cases h : (s.pack p).state.working
  · exact .inr ⟨rfl, by simp [h]⟩
  · exact .inl ⟨rfl, by simp [h]⟩

/-- The working-state decision answers a working state (R35). -/
theorem State.workingState_working (s : State) (p : PackId) : (s.workingState p).working = true := by
  unfold State.workingState
  simp only
  repeat' split
  all_goals rfl

/-- The working-state decision changes the pack records alone. -/
theorem State.decidePack_frame (s : State) (p : PackId) :
    ∃ k, s.decidePack p = s.setPack p k := by
  obtain ⟨_, h⟩ | ⟨_, h⟩ := s.decidePack_cases p
  · exact ⟨_, h⟩
  · exact ⟨s.pack p, by rw [h]; cases p <;> rfl⟩

/-- What an evaluation never changes: the time, the blocks that only read it, and the queue (R50). -/
structure SameOutside (s t : State) : Prop where
  time : t.time = s.time
  pim : t.pim = s.pim
  adn : t.adn = s.adn
  thm : t.thm = s.thm
  fnc : t.fnc = s.fnc
  mxs : t.mxs = s.mxs
  hkm : t.hkm = s.hkm
  psq : t.psq = s.psq
  sst : t.sst = s.sst
  pending : t.pending = s.pending
  enable : t.cbu.enable = s.cbu.enable

theorem SameOutside.trans {s t u : State} (h : SameOutside s t) (k : SameOutside t u) : SameOutside s u :=
  ⟨k.time.trans h.time, k.pim.trans h.pim, k.adn.trans h.adn, k.thm.trans h.thm, k.fnc.trans h.fnc, k.mxs.trans h.mxs,
    k.hkm.trans h.hkm, k.psq.trans h.psq, k.sst.trans h.sst, k.pending.trans h.pending, k.enable.trans h.enable⟩

theorem SameOutside.refl (s : State) : SameOutside s s := ⟨rfl, rfl, rfl, rfl, rfl, rfl, rfl, rfl, rfl, rfl, rfl⟩

theorem State.clearTest_sameOutside (s : State) (c : ProtectCause) : SameOutside s (s.clearTest c) := by
  obtain ⟨l, h⟩ := s.clearTest_frame c
  rw [h]
  exact ⟨rfl, rfl, rfl, rfl, rfl, rfl, rfl, rfl, rfl, rfl, rfl⟩

theorem State.reportLogged_sameOutside (s : State) (c : FaultCause) (src : Source) (d : Option Int) :
    SameOutside s (s.reportLogged c src d) := by
  obtain ⟨f, l, h⟩ := s.reportLogged_frame c src d
  rw [h]
  exact ⟨rfl, rfl, rfl, rfl, rfl, rfl, rfl, rfl, rfl, rfl, rfl⟩

theorem State.decidePack_sameOutside (s : State) (p : PackId) : SameOutside s (s.decidePack p) := by
  obtain ⟨k, h⟩ := s.decidePack_frame p
  rw [h]
  exact ⟨rfl, rfl, rfl, rfl, rfl, rfl, rfl, rfl, rfl, rfl, rfl⟩

/-- Applying a budget changes nothing outside the outputs, the budget, the packs, the FLM and the LNK (R50, R55). -/
theorem State.applyBudget_sameOutside (s : State) (b : Budget) : SameOutside s (s.applyBudget b) := by
  have pick : ∀ (t u v : State) (x : Prop) [Decidable x], SameOutside t u → SameOutside t v →
      SameOutside t (if x then u else v) := fun t u v x _ hu hv => by
    split
    · exact hu
    · exact hv
  refine SameOutside.trans ?_ (State.decidePack_sameOutside _ .b)
  refine SameOutside.trans ?_ (State.decidePack_sameOutside _ .a)
  refine SameOutside.trans ?_ (pick _ _ _ _ (State.reportLogged_sameOutside _ _ _ _) (SameOutside.refl _))
  refine SameOutside.trans ?_ (pick _ _ _ _ (State.clearTest_sameOutside _ _) (SameOutside.refl _))
  exact ⟨rfl, rfl, rfl, rfl, rfl, rfl, rfl, rfl, rfl, rfl, rfl⟩

/-- A whole chain of evaluations changes nothing outside them (R50). -/
theorem State.evaluateChain_sameOutside (n : Nat) : ∀ (s : State) (t : Trigger), SameOutside s (s.evaluateChain n t) := by
  induction n with
  | zero => exact fun s _ => SameOutside.refl s
  | succ n ih =>
    intro s t
    unfold State.evaluateChain
    simp only
    split
    · exact (s.applyBudget_sameOutside _).trans (ih _ _)
    · exact s.applyBudget_sameOutside _

theorem State.notifyPack_sameOutside (s : State) (due : PackId → Bool) (p : PackId) : SameOutside s (s.notifyPack due p) := by
  unfold State.notifyPack
  split
  · exact ⟨rfl, rfl, rfl, rfl, rfl, rfl, rfl, rfl, rfl, rfl, rfl⟩
  · exact SameOutside.refl s

/-- An evaluation with its chain and its PACK notices changes nothing outside the outputs, the budget, the packs, the FLM and
the LNK (R50). -/
theorem State.evaluateSince_sameOutside (s before : State) (t : Trigger) : SameOutside s (s.evaluateSince before t) :=
  let due := fun p => s.packDiffers before p || s.chainMoves p chainFuel t
  ((s.evaluateChain_sameOutside chainFuel t).trans (State.notifyPack_sameOutside _ due .a)).trans
    (State.notifyPack_sameOutside _ due .b)

/-- So does a trigger handed to the CBU (R50). -/
theorem State.trigger_sameOutside (s : State) (t : Trigger) : SameOutside s (s.trigger t) := s.evaluateSince_sameOutside s t

/-- A chain that leaves a pack in another state moves it in some evaluation, so its PACK notice is due (R35, R47). -/
theorem State.chainMoves_of_state_ne (p : PackId) (n : Nat) : ∀ (s : State) (t : Trigger),
    ((s.evaluateChain n t).pack p).state ≠ (s.pack p).state → s.chainMoves p n t = true := by
  induction n with
  | zero => exact fun s _ h => absurd rfl h
  | succ n ih =>
    intro s t h
    unfold State.evaluateChain at h
    unfold State.chainMoves
    simp only [Bool.or_eq_true, Bool.and_eq_true, decide_eq_true_eq] at h ⊢
    by_cases moved : (s.pack p).state = ((s.evaluate t).pack p).state
    · split at h
      · rename_i goes
        exact .inr ⟨goes, ih _ _ (moved ▸ h)⟩
      · exact absurd moved.symm h
    · exact .inl moved

/-! ### The arbiter (R174) -/

/-- What a consultation can do: nothing, start the oldest URGENT notice's frame, or start a frame through the phase table
(R174). -/
theorem State.consult_cases (s : State) :
    s.consult = s ∨
    (s.lnk.canStart = true ∧ ∃ n ns, s.lnk.urgent = n :: ns ∧ s.consult = s.startUrgent n) ∨
    (s.lnk.canStart = true ∧ s.lnk.urgent = [] ∧ ∃ i, s.pickPhase = some i ∧ s.consult = s.startPhase i) := by
  unfold State.consult
  split
  · rename_i h
    split
    · rename_i n ns hu
      exact .inr (.inl ⟨h, n, ns, hu, rfl⟩)
    · rename_i hu
      split
      · rename_i i hi
        exact .inr (.inr ⟨h, hu, i, hi, rfl⟩)
      · exact .inl rfl
  · exact .inl rfl

/-- A phase is picked only where its source holds an item (R174). -/
theorem State.pickPhase_holds (s : State) (i : Nat) (h : s.pickPhase = some i) : s.holds (s.lnk.phase i) = true := by
  unfold State.pickPhase at h
  exact List.find?_some (p := fun i => s.holds (s.lnk.phase i)) h

/-! ### Offers of the action head (R124) -/

/-- What an offer of the action at the head can do: discard an entry NONE, execute where the notice queue has room, or
nothing (R124). -/
theorem State.tryAction_cases (s s' : State) (h : s.tryAction = some s') :
    ∃ i q, s.hkm.queue = i :: q ∧
      (((s.hkm.action i).kind = .nothing ∧ s' = s.dropAction) ∨
       ((s.hkm.action i).kind ≠ .nothing ∧ s.lnk.notices.length < Config.noticeCapacity ∧
        s' = ((s.notice (.hotkey i (s.hkm.action i).kind (s.actionValue (s.hkm.action i)))).actionEffect
          (s.hkm.action i)).dropAction)) := by
  unfold State.tryAction at h
  split at h
  · cases h
  · rename_i i q hq
    refine ⟨i, q, hq, ?_⟩
    simp only at h
    split at h
    · exact .inl ⟨‹_›, (Option.some.inj h).symm⟩
    · split at h
      · exact .inr ⟨‹_›, ‹_›, (Option.some.inj h).symm⟩
      · cases h

/-- A head that has not just arrived is not offered (R124). -/
@[simp] theorem State.tryArrival_false (s : State) : s.tryArrival false = none := rfl
@[simp] theorem State.tryArrival_true (s : State) : s.tryArrival true = s.tryAction := rfl

/-- With the notice queue full the waiting head stays where it is (R124). -/
theorem State.offerAction_of_full (s : State) (h : Config.noticeCapacity ≤ s.lnk.notices.length) : s.offerAction = s := by
  simp [State.offerAction, Nat.not_lt.mpr h]

/-! ### SEQ_DOWN's entry (R132) -/

/-- SEQ_DOWN is entered with the fall timer running, or reaches its target in the event: where CORE good reads low, and from
STANDBY for three of its causes (R132, R142, R147, R148). -/
theorem State.enterSeqDown_cases (s : State) (t : DownTarget) (c : DownCause) (o : Option RestartOrigin) :
    let s1 := (s.setHrst true).setCore false
    let s2 := (s1.setPsq (s1.psq.startDown t c o)).changeState .seqDown
    (((s.psq.state = .standby ∧ c.atOnceFromStandby = true) ∨ s2.psq.coreGood = false) ∧
      s.enterSeqDown t c o = s2.finishDown) ∨
    (¬ (s.psq.state = .standby ∧ c.atOnceFromStandby = true) ∧ s2.psq.coreGood = true ∧ s.enterSeqDown t c o = s2) := by
  intro s1 s2
  by_cases h : (s.psq.state = .standby ∧ c.atOnceFromStandby = true) ∨ s2.psq.coreGood = false
  · exact .inl ⟨h, if_pos h⟩
  · refine .inr ⟨fun k => h (.inl k), ?_, if_neg h⟩
    cases hc : s2.psq.coreGood
    · exact absurd (.inr hc) h
    · rfl

/-! ### The framer's timer (R169) -/

/-- What the inter-byte timer's expiry can do: nothing while it does not run, stop in HUNT, abandon the frame (R169). -/
theorem Framer.expire_cases (f : Framer) :
    (f.timer = none ∧ f.expire = f) ∨
    (f.timer.isSome = true ∧ f.phase = .hunt ∧ f.expire = { f with timer := none }) ∨
    (f.timer.isSome = true ∧ f.phase ≠ .hunt ∧ f.expire = .initial) := by
  unfold Framer.expire
  cases ht : f.timer with
  | none => exact .inl ⟨rfl, rfl⟩
  | some n =>
    by_cases hp : f.phase = .hunt
    · exact .inr (.inl ⟨rfl, hp, by simp [hp]⟩)
    · exact .inr (.inr ⟨rfl, hp, by simp [hp]⟩)

@[simp] theorem State.toHunt_framer (s : State) :
    s.toHunt.lnk.framer = { Framer.initial with timer := some interByteMs } := rfl
@[simp] theorem State.toHunt_replies (s : State) : s.toHunt.lnk.replies = s.lnk.replies := rfl
@[simp] theorem State.toHunt_flm (s : State) : s.toHunt.flm = s.flm := rfl
@[simp] theorem State.toHunt_psq (s : State) : s.toHunt.psq = s.psq := rfl
@[simp] theorem State.toHunt_pbc (s : State) : s.toHunt.pbc = s.pbc := rfl

end Sys2Proof.Machine
end

