-- ==== Sys2Proof/WellFormed.lean ====
section
/-! DEFINITION. Which commands can arise: the operand ranges that the manual gives for what reaches the part. Every other
operand is judged by the part itself, which clamps, discards or refuses it, and is well formed. -/
namespace Sys2Proof

/-- A received frame's payload has a LEN of at most 56: a longer one never becomes a request (R169). -/
def payloadOk (payload : List Byte) : Bool := decide (payload.length ≤ Config.maxPayload)

/-- A tach report's rpm lies from 0 to 12000 (R89; what a greater one would do: DEDUCED, notes/assumptions/17.md). -/
def rpmOk (rpm : Nat) : Bool := decide (rpm ≤ 12000)

/-- KIND names no request: the requests are kinds 0x01 to 0x1A (R171, R189). -/
def kindUnknown (kind : Byte) : Bool := decide (kind.toNat = 0) || decide (0x1A < kind.toNat)

/-- A command that can arise. -/
def Instr.wf : Instr → Bool
  | .tachReport _ rpm => rpmOk rpm
  | .unknownKind kind _ payload => kindUnknown kind && payloadOk payload
  | .adapterRenegotiate _ payload | .packReport _ payload | .packRawRead _ payload | .packAccumClear _ payload
  | .chargeControl _ payload | .powerReport _ payload | .fanCurveWrite _ payload | .fanControl _ payload
  | .thermalReport _ payload | .keyControl _ payload | .keyStateRead _ payload | .hotkeyWindowWrite _ payload
  | .actionWrite _ payload | .wakeTimerSet _ payload | .powerStateRequest _ payload | .watchdogKick _ payload
  | .faultDone _ payload | .faultLogRead _ payload | .faultLogClear _ payload | .retainedRead _ payload
  | .retainedClear _ payload | .arbiterWrite _ payload | .partReset _ payload | .settingRead _ payload
  | .settingWrite _ payload | .identify _ payload => payloadOk payload
  | .powerOnReset _ | .pinReset _ | .resetTimerExpiry _ | .powerSample _ _ | .adapterPresenceRise | .adapterPresenceFall
  | .ability _ _ | .accept _ _ | .reject _ _ | .ready _ _ | .abilityTimerExpiry | .selectTimerExpiry | .readyTimerExpiry
  | .packPresenceRise _ | .packPresenceFall _ | .pollTimerExpiry _ | .busOperationStart
  | .pollResponse _ _ _ _ | .pollTimeout _ | .rawReadResponse _ _ _ _ | .rawReadTimeout _
  | .overdrawTimerExpiry | .sensorReading _ _ _ | .scanPass _ | .activityPass _ | .handOff | .resync | .actionExecute
  | .rawLevelChange _ _ | .stabilityTimerExpiry _ | .heldStartProceed | .permissionWaitTimerExpiry
  | .powerGoodRise _ | .powerGoodFall _ | .powerGoodTimerExpiry | .settleTimerExpiry | .fallTimerExpiry
  | .holdTimerExpiry | .lidTimerExpiry | .wakeTimerExpiry | .watchdogExpiry
  | .badFrame _ _ | .interByteTimerExpiry | .hrdyAssert | .hrdyDeassert | .frameStart | .frameEnd _
  | .receiveByte _ => true

end Sys2Proof
end

