-- ==== Sys2Proof/Tests/Slice0.lean ====
section
/-! SUPPORT. The model's own tests: the well-formedness checks, the manual's worked examples one step at a time, and for each
statement with hypotheses a witness that meets them. Expected values are the manual's. -/
namespace Sys2Proof.Tests
open Sys2Proof.Machine

/-- The state that a command leaves. -/
def got (r : Answer) : State :=
  match r with
  | .next t => t
  | _ => State.reset

/-! ### Well-formedness (R89, R169, R189) -/

theorem test_wf_refuses_long_payload : (Instr.identify 0 (List.replicate 57 0)).wf = false := by decide
theorem test_wf_takes_longest_payload : (Instr.identify 0 (List.replicate 56 0)).wf = true := by decide
theorem test_wf_refuses_fast_tach : (Instr.tachReport .f0 12001).wf = false := by decide
theorem test_wf_refuses_named_kind : (Instr.unknownKind 0x01 0 []).wf = false := by decide
theorem test_wf_refuses_long_unknown : (Instr.unknownKind 0x40 0 (List.replicate 57 0)).wf = false := by decide

/-! ### States -/

/-- RUN, entered from a reset board with the rails up. -/
def running : State := State.reset.setPsq { Psq.initial with
  state := .run, mainOn := true, coreOn := true, hrst := false, mainGood := true, coreGood := true }

/-- A pack with gauge fields, in a state. -/
def packOf (st : PackState) (voltage ireq rel : Nat) (temp current : Int) : Pack :=
  { Pack.initial with
    state := st, seated := true, lastPoll := some 0, pollTimer := some 250
    gauge := some ⟨voltage, current, temp, rel, ireq, 16800, false, false, false, false⟩ }

/-- The offers of section 1.9 and of section 1.10. -/
def offers9 : List Offer := [⟨5000, 3000⟩, ⟨9000, 3000⟩, ⟨15000, 3000⟩, ⟨20000, 4500⟩, ⟨28000, 5000⟩]
def offers10 : List Offer := [⟨5000, 3000⟩, ⟨9000, 3000⟩, ⟨15000, 3000⟩, ⟨20000, 2250⟩]

/-- The contract of section 1.9. -/
def contract9 : Adn :=
  ⟨.contract, offers9, [], [], none, none, some ⟨.negotiated, some 3, 20000, 4500, 90000, 85429⟩, 85429⟩

/-- RUN under that contract. -/
def powered : State := { running with adn := contract9, pim := ⟨none, true⟩ }

/-- Section 3.13, before its first sample. -/
def budgetCase : State :=
  { powered with
    thm := { Thm.initial with aggregate := .valid 780 2, d := 153 }
    sst := { powered.sst with settings := powered.sst.settings.set .packWeightB 4 }
    pbc := { powered.pbc with packs := ⟨packOf .ready 12600 3000 40 300 0, packOf .ready 16400 2000 55 280 0⟩ } }

/-! ### Power input and adapter (sections 1.9 and 1.10) -/

theorem test_ranking_of_section_1_9 : rankCandidates 9000 20000 180000 offers9 = [3, 2, 1] := by decide
theorem test_ranking_of_section_1_10 : rankCandidates 9000 20000 180000 offers10 = [2, 3, 1] := by decide
theorem test_offer_power_of_section_1_9 : powered.pOffer 3 = 85429 := by decide

theorem test_ability_lowers_contract :
    let t := got (exec (.ability true offers10) powered)
    t.adn.state = .selecting ∧ t.adn.pContract = 42714 ∧ t.adn.tried = [2] ∧ t.adn.record = contract9.record ∧
      t.cbu.budget.pContract = 42714 ∧ t.outs.getLast? = some (.adapterLink (.select 2)) := by decide

theorem test_reject_selects_next :
    let t := got (exec (.reject true 2) { powered with adn :=
      ⟨.selecting, offers10, [2, 3, 1], [2], some 2, some 50, contract9.record, 42714⟩ })
    t.adn.outstanding = some 3 ∧ t.adn.tried = [2, 3] ∧ t.adn.pContract = 42714 := by decide

theorem test_ready_raises_contract :
    let t := got (exec (.ready true 3) { powered with adn :=
      ⟨.switching, offers9, [3, 2, 1], [3], some 3, some 300, none, 0⟩ })
    t.adn = contract9 ∧ t.cbu.budget.pContract = 85429 := by decide

/-! ### Packs (section 2.15) -/

/-- Section 2.15 at time 250: both packs discharging, A's poll on the bus. -/
def swapCase : State :=
  { powered with
    time := 250
    pim := ⟨some ⟨19800, 7580⟩, true⟩
    pbc := ⟨⟨{ packOf .discharging 15200 0 62 300 (-4100) with accum := -9800000 },
      { packOf .discharging 15050 0 58 300 (-4000) with accum := -9500000 }⟩, [⟨.a, .poll, false⟩], some 35, ⟨true, true⟩⟩ }

theorem test_poll_adds_to_accumulator :
    let t := got (exec (.pollResponse .a true true [15150, BitVec.ofInt 16 (-4100), 300, 62, 0, 16800, 0]) swapCase)
    (t.pack .a).accum = -10825000 ∧ (t.pack .a).voltage = 15150 ∧ (t.pack .a).state = .discharging ∧ t.pbc.ops = [] := by
  decide

theorem test_fall_answers_raw_read :
    let t := got (exec (.packPresenceFall .b) (swapCase.setPbc { swapCase.pbc with
      ops := [⟨.b, .poll, false⟩, ⟨.b, .rawRead 9 0x21, false⟩] }))
    (t.pack .b).state = .absent ∧ (t.pack .b).accum = -9500000 ∧ t.pbc.ops = [⟨.b, .poll, true⟩] ∧
      t.lnk.replies = [⟨0x87, 0x21, [6]⟩] ∧ t.pbc.connected = ⟨true, false⟩ ∧ t.cbu.budget.mode = .assist := by decide

/-! ### The charge budget (sections 3.13 and 3.14) -/

theorem test_budget_of_section_3_13 :
    let b := (got (exec (.powerSample 19800 3100) budgetCase)).cbu.budget
    b.g = some 24049 ∧ b.h = 18049 ∧ b.hd = 10787 ∧ b.mode = .adapterCharging ∧
      b.packs.a.iSet = 560 ∧ b.packs.a.iApp = 128 ∧ b.packs.b.iSet = 208 ∧ b.packs.b.iApp = 128 := by decide

/-- Section 3.13 after its first samples, both packs charging. -/
def chargingCase : State :=
  { budgetCase with
    pbc := { budgetCase.pbc with packs := ⟨packOf .charging 12600 3000 40 300 0, packOf .charging 16400 2000 55 280 0⟩ }
    cbu := { budgetCase.cbu with budget := { budgetCase.cbu.budget with
      mode := .adapterCharging, pContract := 85429, packs := ⟨⟨true, none, 560, 512⟩, ⟨true, none, 208, 208⟩⟩ } } }

theorem test_last_step_of_the_ramp :
    let b := (got (exec (.powerSample 19800 3100) chargingCase)).cbu.budget
    b.packs.a.iApp = 560 ∧ b.packs.b.iApp = 208 := by decide

theorem test_sample_beyond_contract :
    let t := got (exec (.powerSample 19800 4798) chargingCase)
    t.cbu.budget.mode = .assist ∧ t.cbu.budget.packs.a.iApp = 0 ∧ t.cbu.budget.packs.b.iApp = 0 ∧
      t.pbc.connected = ⟨false, true⟩ ∧ (t.pack .a).state = .ready ∧ (t.pack .b).state = .discharging := by decide

/-- Section 3.14: no pack can assist. -/
def overdrawn : State := { powered with adn := { contract9 with pContract := 42714 } }

theorem test_overdraw_is_reported :
    let t := got (exec (.powerSample 19800 2530) overdrawn)
    t.cbu.budget.mode = .overdraw ∧ t.cbu.budget.overdraw = some 2000 ∧
      t.flm.log = [⟨1, .powerDeficit, .system, some 738, .run⟩] ∧ t.flm.u = true := by decide

theorem test_overdraw_that_is_held :
    let t := got (exec .overdrawTimerExpiry (got (exec (.powerSample 19800 2530) overdrawn)))
    t.flm.log.getLast? = some ⟨2, .overdrawHold, .system, some 738, .run⟩ ∧ t.flm.latch.overdrawHold = some true ∧
      t.psq.state = .seqDown ∧ t.psq.downTarget = some .tripped := by decide

/-! ### Thermal sensing and fans (sections 4.11 and 4.12) -/

/-- RUN with an aggregate and a base duty memory. -/
def warm (v : Int) (prevBase boost : Nat) (quiet : Bool) : State :=
  { running with
    thm := { Thm.initial with aggregate := .valid v 2 }
    fnc := { Fnc.initial with prevBase := prevBase, boost := boost, quiet := quiet } }

theorem test_duties_of_section_4_11 :
    (warm 780 0 0 false).computeDuty.fnc.fans.f0.applied = 68 ∧ (warm 740 68 0 false).computeDuty.fnc.prevBase = 66 ∧
      (warm 740 66 1 false).computeDuty.fnc.fans.f0.applied = 81 ∧ (warm 740 66 1 true).computeDuty.fnc.fans.f1.applied = 60 ∧
      (warm 860 65 1 true).computeDuty.fnc.fans.f0.applied = 97 ∧ (warm 380 20 0 false).computeDuty.fnc.fans.f0.applied = 20 ∧
      (warm 360 2 0 false).computeDuty.fnc.fans.f0.applied = 0 ∧ (warm 405 0 0 false).computeDuty.fnc.fans.f0.applied = 20 := by
  decide

/-- Section 4.12 before its third tach report: F1 has stalled twice. -/
def stalling : State :=
  { running with
    thm := { Thm.initial with
      slots := ⟨⟨.valid, some 742, 0, 0, none⟩, ⟨.valid, some 701, 0, 0, none⟩, ⟨.valid, some 780, 0, 0, none⟩,
        ⟨.valid, some 655, 0, 0, none⟩⟩
      aggregate := .valid 780 2, d := 153 }
    fnc := { Fnc.initial with
      fans := ⟨{ FanSlot.initial with applied := 68 }, { FanSlot.initial with applied := 68, stall := 2 }⟩, prevBase := 68 } }

theorem test_third_stall_degrades :
    let t := got (exec (.tachReport .f1 0) stalling)
    t.fnc.fans.f1.degraded = true ∧ t.fnc.fans.f1.stall = 0 ∧ t.fnc.fans.f0.applied = 100 ∧ t.fnc.fans.f1.applied = 100 ∧
      t.thm.d = 76 ∧ t.flm.log = [⟨1, .fanStall, .fan .f1, some 0, .run⟩] := by decide

/-- Section 4.12 with F1 degraded, before the third reading of S2. -/
def losing : State :=
  { stalling with
    thm := { stalling.thm with slots := stalling.thm.slots.set 2 ⟨.valid, some 780, 2, 0, none⟩, d := 76 }
    fnc := { stalling.fnc with
      fans := ⟨{ FanSlot.initial with applied := 100 }, { FanSlot.initial with applied := 100, degraded := true }⟩ } }

theorem test_third_open_reading_loses_sensor :
    let t := got (exec (.sensorReading 2 .openWire 0) losing)
    (t.thm.slots.get 2).cond = .marked ∧ t.thm.aggregate = .valid 742 0 ∧ t.thm.d = 101 ∧ t.fnc.fans.f0.applied = 100 := by
  decide

/-- RUN with every sensor marked but S3, the critical arm flag set and the latch clear. -/
def marked : State :=
  { running with thm := { Thm.initial with
      d := 256
      slots := ⟨⟨.marked, none, 3, 0, some .openWire⟩, ⟨.marked, none, 3, 0, some .openWire⟩,
        ⟨.marked, none, 3, 0, some .openWire⟩, ⟨.valid, some 300, 2, 0, none⟩⟩ } }

/-- One evaluation where a reading sets the latch and changes D (R50): it is recorded once and reads both. -/
theorem test_critical_reading_is_evaluated_once :
    let t := got (exec (.sensorReading 3 .normal 1050) marked)
    t.thm.d = 0 ∧ t.cbu.budget.d = 0 ∧ t.cbu.budget.latch = true ∧ t.cbu.budget.trigger = .latch ∧
      t.psq.downTarget = some .tripped := by decide

/-! ### Keys and hotkeys (sections 5.13, 5.14, 6.8) -/

/-- RUN and SCANNING on 18 sense lines, with the windows and entries of section 6.8. -/
def keyed : State :=
  { running with
    sst := { running.sst with straps := { running.sst.straps with senseLines := .n18 } }
    mxs := { Mxs.initial with cond := .scanning, passTimer := some 1000 }
    hkm := { Hkm.initial with
      windows := [⟨true, 128, 0xF8, 8, false⟩, ⟨true, 136, 0xFC, 20, true⟩] ++ List.replicate 4 .initial
      actions := (Hkm.initial.actions.set 10 ⟨.fanBoostCycle, 0⟩).set 21 ⟨.chargeLimitCycle, 0⟩ } }

/-- A pending press or release. -/
def headed (code : Nat) (press : Bool) : State :=
  keyed.setMxs { keyed.mxs with pending := [⟨code, press, 7, .scan⟩] }

theorem test_window_conflict :
    (got (exec (.hotkeyWindowWrite 9 [2, 1, 132, 0xFC, 0, 0]) keyed)).lnk.replies = [⟨0x8F, 9, [10]⟩] := by decide

theorem test_press_copied :
    let t := got (exec .handOff (headed 130 true))
    t.mxs.queue = [⟨130, true, 7, .scan⟩] ∧ t.fnc.boost = 1 ∧ t.hkm.queue = [] ∧ (t.mxs.key 130).reported = true ∧
      .hotkey 10 .fanBoostCycle 1 ∈ t.lnk.notices := by decide

theorem test_press_consumed :
    let t := got (exec .handOff (headed 137 true))
    t.mxs.queue = [] ∧ t.setting .chargeLimit = 80 ∧ (t.mxs.key 137).consumed = true ∧
      .hotkey 21 .chargeLimitCycle 80 ∈ t.lnk.notices := by decide

/-- An action waits at the head; the notice queue holds 16, and its entry has been made NONE. -/
def voided : State :=
  { headed 20 true with
    hkm := { keyed.hkm with queue := [3] }, lnk := { keyed.lnk with notices := List.replicate 16 (.lid true) } }

/-- A waiting action is not offered at a hand-off (R124). -/
theorem test_waiting_action_is_not_offered :
    let t := got (exec .handOff voided)
    t.mxs.queue = [⟨20, true, 7, .scan⟩] ∧ t.hkm.queue = [3] ∧ (got (exec .actionExecute voided)).hkm.queue = [3] := by decide

theorem test_full_list_flags_resync :
    let s := keyed.setMxs { keyed.mxs with
      pending := List.replicate 16 ⟨55, true, 1, .scan⟩, keys := keyed.mxs.keys.set 40 { KeyRec.up with count := 3 }
      queue := List.replicate 28 ⟨3, true, 1, .scan⟩, stalled := true }
    let t := got (exec (.scanPass (1 <<< 40)) s)
    (t.mxs.key 40).debounced = true ∧ (t.mxs.key 40).resync = true ∧ t.mxs.pending.length = 16 ∧ t.mxs.passCount = 1 := by
  decide +kernel

/-! ### System power (section 7.14) -/

/-- Section 7.14 at time 20: OFF under a contract, the button's raw level pressed. -/
def pressed : State :=
  { State.reset with
    adn := contract9, pim := ⟨none, true⟩, time := 20
    psq := { Psq.initial with buttonRaw := true, buttonTimer := some 0 } }

theorem test_press_starts_from_off :
    let t := got (exec (.stabilityTimerExpiry .button) pressed)
    t.psq.state = .seqUp ∧ t.psq.step = some .mainWait ∧ t.psq.mainOn = true ∧ t.psq.coreOn = false ∧ t.psq.hrst = true ∧
      t.psq.wakeList = [.button] ∧ t.psq.holdTimer = some 4000 ∧ t.psq.pressTime = some 20 := by decide

theorem test_main_good_turns_core_on :
    let t := got (exec (.powerGoodRise .main) (got (exec (.stabilityTimerExpiry .button) pressed)))
    t.psq.step = some .coreWait ∧ t.psq.coreOn = true ∧ t.psq.hrst = true := by decide

/-- SEQ_UP in SETTLE with BUTTON in the list. -/
def settling : State :=
  { pressed with psq := { running.psq with
      state := .seqUp, hrst := true, step := some .settle, stepTimer := some 0, startKind := some .wake, wakeList := [.button]
      pressTime := some 20 } }

theorem test_settle_enters_run :
    let t := got (exec .settleTimerExpiry settling)
    t.psq.state = .run ∧ t.psq.hrst = false ∧ t.psq.wakeList = [] ∧ t.lnk.notices.drop 3 =
      [.wake .wake [.button]] ∧ .state .run (.start .wake) false ∈ t.lnk.notices := by decide

theorem test_lid_timer_leads_to_standby :
    let t := got (exec .lidTimerExpiry (running.setPsq { running.psq with lidConfirmed := true, lidDelay := some 0 }))
    t.psq.state = .seqDown ∧ t.psq.downTarget = some .standby ∧ t.psq.coreOn = false ∧ t.psq.mainOn = true := by decide

/-- STANDBY with KEY in the wake mask, the scanner armed and line 2 one pass short of a wake. -/
def sleeping : State :=
  { running with
    psq := { running.psq with state := .standby, coreOn := false, coreGood := false, hrst := true }
    sst := { running.sst with settings := running.sst.settings.set .wakeMask 5 }
    mxs := { Mxs.initial with
      cond := .activity, armed := true, passTimer := some 1000, lines := Mxs.initial.lines.set 2 { LineRec.initial with activity := 3 } } }

/-- STANDBY with the CORE power-good input still high. -/
def slowCore : State := sleeping.setPsq { sleeping.psq with coreGood := true }

/-- OFF requested in STANDBY waits for CORE good to fall (R132). -/
theorem test_off_request_waits_for_core :
    let t := got (exec (.powerStateRequest 1 [1]) slowCore)
    t.psq.state = .seqDown ∧ t.psq.step = some .coreWait ∧ t.psq.stepTimer = some 50 ∧ t.psq.downTarget = some .off ∧
      (got (exec (.powerGoodFall .core) t)).psq.state = .off := by decide

/-- A forced power-off from STANDBY reaches OFF in the same event (R142). -/
theorem test_forced_off_from_standby :
    (got (exec .holdTimerExpiry (slowCore.setPsq { slowCore.psq with holdTimer := some 0 }))).psq.state = .off := by decide

/-! ### Faults (section 8.10) -/

/-- Section 8.10 at 12000: U and M set, record 43 held. -/
def hung : State :=
  { running with
    sst := { running.sst with settings := running.sst.settings.set .watchdogS 5 }
    flm := { Flm.initial with
      counter := 44, u := true, m := true, held := 1, firstHeld := some 43, watchdog := some 0
      retained := { Retained.initial with urgent := true } } }

theorem test_second_expiry_escalates :
    let t := got (exec .watchdogExpiry hung)
    t.flm.log = [⟨44, .watchdogSecond, .system, some 1, .run⟩] ∧ t.flm.u = false ∧ t.flm.m = false ∧ t.flm.held = 0 ∧
      t.flm.retained.escalations = 1 ∧ t.flm.retained.escalate = true ∧ t.psq.state = .seqDown ∧
      t.psq.restartOrigin = some .escalation ∧ t.lnk.urgent = [⟨⟨44, .watchdogSecond, .system, some 1, .run⟩, false⟩] := by decide

/-! ### The link (sections 9.1 and 9.9) -/

/-- Section 9.9 before its fourth frame: pointer 3, 12 records, 4 notices. -/
def draining : State :=
  { State.reset with
    mxs := { Mxs.initial with queue := List.replicate 12 ⟨5, true, 1, .scan⟩ }
    lnk := { Lnk.initial with
      hrdy := true, pointer := 3, tx := some ⟨[], false⟩
      notices := [.lid true, .lid false, .lid true, .lid false] } }

theorem test_fourth_frame_of_section_9_9 :
    let t := got (exec (.frameEnd ⟨false, false, false⟩) draining)
    t.mxs.queue.length = 4 ∧ t.lnk.pointer = 5 ∧ t.lnk.notices.length = 4 := by decide

theorem test_eighth_frame_of_section_9_9 :
    let t := got (exec (.frameEnd ⟨false, false, false⟩) { draining with
      mxs := Mxs.initial, lnk := { draining.lnk with pointer := 15 } })
    t.lnk.pointer = 3 ∧ t.lnk.notices.length = 3 := by decide

/-- An IDENTIFY frame of tag 5: D3 01 05 00 and the check byte that brings the sum to 0 (section 9.1). -/
theorem test_frame_bytes : frameBytes 0x01 0x05 [] = [0xD3, 0x01, 0x05, 0x00, 0xFA] := by decide

theorem test_check_byte_completes_request :
    (got (receiveAll State.reset [0xD3, 0x01, 0x05, 0x00, 0xFA])).lnk.replies.length = 1 := by decide

/-- The inter-byte timer runs from every byte outside HUNT, the last one included, and no frame is abandoned while it does not run
(R169). -/
theorem test_inter_byte_timer :
    (got (receiveAll State.reset [0xD3, 0x01, 0x05, 0x00, 0xFA])).lnk.framer = ⟨.hunt, [], [], 0, some 5⟩ ∧
      (got (exec .interByteTimerExpiry (got (exec (.receiveByte 0xD3) State.reset)))).lnk.framer.phase = .header ∧
      (got (exec .interByteTimerExpiry (got (receiveAll State.reset [0xD3, 0x01])))).lnk.framer = .initial := by decide

theorem test_discarded_frame_is_reported :
    (got (exec (.badFrame 0x02 .lengthAbove56) State.reset)).flm.log = [⟨1, .linkCheck, .link, some 514, .off⟩] := by decide

/-! ### Settings and resets -/

theorem test_wake_mask_keeps_button :
    (got (exec (.settingWrite 1 [0x05, 0x06, 0x06, 0, 0, 0]) State.reset)).lnk.replies =
      [⟨0x83, 1, [1, 0x05, 0x06, 0x07, 0, 0, 0]⟩] := by decide

theorem test_power_on_reset_of_bare_board :
    got (exec (.powerOnReset bareBoard) running) = State.reset := by decide

/-! ## Witnesses: for each statement with hypotheses, states and operands that meet them -/

/-! ### The step and the resets -/

theorem witness_StepTakesTheFrontCommand :
    (State.reset.setPending [.handOff]).pending = [.handOff] ∧ State.reset.pending = [] := by decide

/-- A soft reset is pending, and the frame of its reply is being sent. -/
def resetting : State := State.reset.setLnk { State.reset.lnk with pendingReset := some 100, tx := some ⟨[], true⟩ }

/-- The same with both packs seated and an adapter. -/
def restoring : State := swapCase.setLnk resetting.lnk

theorem witness_SoftResetState (l : PresenceLevels) :
    resetting.softResetBy (.resetTimerExpiry l) = some l ∧ resetting.softResetBy (.frameEnd l) = some l ∧
      State.reset.lnk.pendingReset = none ∧
      (State.reset.hasPack .a = true ∧ packLine ⟨false, true, true⟩ .a = true ∧ (State.reset.pack .a).state = .absent) :=
  ⟨rfl, rfl, rfl, rfl, rfl, rfl⟩

theorem witness_SoftResetState_kept (p : PackId) :
    restoring.softResetBy (.frameEnd ⟨true, true, true⟩) = some ⟨true, true, true⟩ ∧
      (packLine ⟨true, true, true⟩ p = true ∧ (restoring.pack p).state ≠ .absent) ∧
      true = decide (restoring.adn.state ≠ .detached) ∧ restoring.sst.settings = .defaults ∧
      packLine ⟨true, true, true⟩ p = decide ((restoring.pack p).state ≠ .absent) ∧ restoring.psq.held = none := by
  cases p <;> decide

/-! ### The invariants -/

/-- Every list at its capacity. -/
def full : State :=
  { running with
    pbc := { running.pbc with
      ops := [⟨.a, .poll, false⟩, ⟨.b, .poll, false⟩, ⟨.a, .rawRead 1 1, false⟩, ⟨.b, .rawRead 2 2, false⟩], busTimer := some 35 }
    mxs := { Mxs.initial with
      pending := List.replicate 16 ⟨5, true, 1, .scan⟩, queue := List.replicate 27 ⟨5, true, 1, .scan⟩ }
    hkm := { Hkm.initial with queue := [0, 1, 2, 3] }
    psq := { running.psq with wakeList := [.button, .lid, .key, .adapter, .packLow, .timer] }
    flm := { Flm.initial with
      log := (List.range 16).map (fun n => ⟨n + 1, .linkCheck, .link, none, .run⟩), counter := 17, u := true, m := true }
    lnk := { Lnk.initial with
      replies := List.replicate 6 ⟨0x81, 0, [0]⟩, notices := List.replicate 16 (.lid true)
      urgent := List.replicate 4 ⟨⟨1, .thermHigh, .system, none, .run⟩, true⟩ } }

theorem defaults_valid : Settings.defaults.Valid :=
  ⟨fun i => by cases i <;> decide, by decide, by decide, by decide, by decide, by decide⟩

theorem witness_QueuesStayBounded :
    full.ListsBounded ∧ full.RepliesBounded ∧ full.flm.Numbered ∧ ∃ t, step full = .next t :=
  ⟨⟨by decide, by decide, by decide, by decide, by decide, by decide, fun _ => rfl⟩,
    ⟨fun p => by cases p <;> decide, by decide, by decide⟩, ⟨by decide, by decide, by decide, by decide⟩, _, rfl⟩

theorem witness_SettingsAndKeyQueueStayGuarded : full.KeyQueueGuarded ∧ ∃ t, step full = .next t :=
  ⟨⟨defaults_valid, fun _ => by decide, by decide⟩, _, rfl⟩

theorem witness_WindowsStayApart : keyed.hkm.WindowsApart ∧ ∃ t, step keyed = .next t := by
  refine ⟨⟨by decide, by decide, by decide, ?_⟩, _, rfl⟩
  intro m n code hm hn ⟨h0, h1⟩
  have hcases : n = 1 ∨ n = 2 ∨ n = 3 ∨ n = 4 ∨ n = 5 := by omega
  rcases hcases with rfl | rfl | rfl | rfl | rfl
  · have hz : m = 0 := by omega
    subst hz
    simp [keyed, Window.matchesCode, Window.size] at h0 h1
    omega
  all_goals simp [keyed, Window.matchesCode, Window.initial, Hkm.initial] at h1

theorem running_latchHolds : running.LatchHolds :=
  ⟨⟨rfl, rfl, rfl, by decide, by decide, by decide⟩, by decide⟩

theorem witness_RailsAndLatchFollowTheState :
    (running.LatchHolds ∧ ∃ t, step running = .next t) ∧ (keyed.ScansInRun ∧ ∃ t, step keyed = .next t) :=
  ⟨⟨running_latchHolds, _, rfl⟩, fun _ => rfl, _, rfl⟩

theorem witness_ChargingStaysGuarded : chargingCase.ChargeGuarded ∧ ∃ t, step chargingCase = .next t :=
  ⟨⟨fun p => by cases p <;> decide, fun p => by cases p <;> decide, fun p _ => by cases p <;> rfl,
    fun p _ => ⟨rfl, rfl⟩⟩, _, rfl⟩

/-- RUN with the failsafe in force. -/
def failsafe : State :=
  running.setFnc { Fnc.initial with fans := ⟨{ FanSlot.initial with applied := 100 }, { FanSlot.initial with applied := 100 }⟩ }

theorem witness_FansStayGuarded :
    failsafe.FansGuarded ∧ State.reset.FansGuarded ∧ failsafe.failsafe = true ∧ ∃ t, step failsafe = .next t :=
  ⟨⟨fun h => absurd rfl h, fun _ _ f _ => by cases f <;> rfl⟩,
    ⟨fun _ f _ => by cases f <;> rfl, fun h => nomatch h⟩, rfl, _, rfl⟩

/-- One press of key 5 in the key queue. -/
def typed : State :=
  keyed.setMxs { keyed.mxs with
    queue := [⟨5, true, 1, .scan⟩], keys := keyed.mxs.keys.set 5 { KeyRec.up with debounced := true, reported := true } }

theorem witness_KeyRecordsAlternate : typed.KeysAlternate ∧ ∃ t, step typed = .next t := by
  refine ⟨⟨by decide +kernel, by decide, by decide, ?_, ?_⟩, _, rfl⟩
  · intro c
    by_cases h : (5 == c) = true <;> simp [typed, recordsOf, alternates, State.setMxs, h]
  · intro c b hb
    by_cases h : 5 = c
    · subst h
      revert b
      decide
    · simp [typed, recordsOf, State.setMxs, h] at hb

/-- A record that charges pack A with 2000 milliamps of a derated headroom of 34000. -/
def ledger : Budget :=
  { Budget.initial with
    trigger := .sample, sample := some ⟨20000, 1000⟩, pContract := 60000, d := 256, g := some 40000, h := 34000, hd := 34000
    mode := .adapterCharging
    packs := ⟨⟨true, some ⟨15000, 2000, 8, 30000, 30000, 2000⟩, 2000, 128⟩, .initial⟩ }

theorem witness_BudgetStaysConsistent :
    let s := running.setCbu { running.cbu with budget := ledger }
    s.cbu.budget.Consistent ∧ s.cbu.budget.WithinHeadroom ∧ ∃ t, step s = .next t := by
  refine ⟨⟨rfl, by decide, ?_, nofun, rfl, rfl, by decide, by decide, nofun⟩, ⟨by decide, by decide, ?_, ?_⟩, _, rfl⟩
  · intro _ g hg
    cases hg
    decide
  · intro p c hc
    cases p
    · cases hc
      decide
    · cases hc
  · intro p hp
    cases p
    · cases hp
    · rfl

theorem ledger_split : ledger.Split := by
  refine ⟨fun p => by cases p <;> rfl, ?_, ?_, ?_, ?_, ?_⟩ <;> intro p c
  case refine_4 | refine_5 => cases p <;> nofun
  all_goals
    intro hc
    cases p <;> cases hc
    decide

theorem witness_BudgetStaysConsistent_split :
    let s := running.setCbu { running.cbu with budget := ledger }
    s.cbu.budget.Split ∧ ∃ t, step s = .next t := ⟨ledger_split, _, rfl⟩

/-! ### What only certain commands change -/

theorem witness_BlocksChangeOnlyByTheirCommands :
    (∃ t, exec .handOff running = .next t) ∧ mayReset .handOff = false ∧ mayRequest .handOff = false ∧
      isColdReset .handOff = false ∧ (∀ v i, Instr.handOff ≠ .powerSample v i) ∧
      (∀ tag p, Instr.handOff ≠ .chargeControl tag p) ∧ (∀ n st v, Instr.handOff ≠ .sensorReading n st v) ∧
      (∀ tag p, Instr.handOff ≠ .fanCurveWrite tag p) ∧ (∀ tag p, Instr.handOff ≠ .keyControl tag p) ∧
      (∀ tag p, Instr.handOff ≠ .hotkeyWindowWrite tag p) ∧ (∀ tag p, Instr.handOff ≠ .actionWrite tag p) ∧
      (∀ i b, Instr.handOff ≠ .rawLevelChange i b) ∧ (∀ i, Instr.handOff ≠ .stabilityTimerExpiry i) ∧
      (∀ r, Instr.handOff ≠ .powerGoodRise r ∧ Instr.handOff ≠ .powerGoodFall r) ∧
      (∀ tag p, Instr.handOff ≠ .arbiterWrite tag p) ∧ (∀ tag p, Instr.handOff ≠ .partReset tag p) ∧
      (∀ tag p, Instr.handOff ≠ .settingWrite tag p) := by
  refine ⟨⟨_, rfl⟩, rfl, rfl, rfl, ?_⟩
  simp

/-- SWITCHING for offer 3 of section 1.9. -/
def switching : State := { powered with adn := ⟨.switching, offers9, [3, 2, 1], [3], some 3, some 300, none, 0⟩ }

theorem witness_ContractPowerRises :
    mayReset (.ready true 3) = false ∧ mayRequest (.ready true 3) = false ∧
      ∃ t, exec (.ready true 3) switching = .next t ∧ t.adn ≠ switching.adn ∧ switching.adn.pContract < t.adn.pContract :=
  ⟨rfl, rfl, _, rfl, by decide, by decide⟩

theorem witness_CurrentRisesOnlyAtSamples :
    (∃ t, exec .handOff chargingCase = .next t) ∧ ∀ v i, Instr.handOff ≠ .powerSample v i := ⟨⟨_, rfl⟩, by simp⟩

/-! ### The charge budget -/

theorem witness_EvaluationSettles :
    ((swapCase.evaluateFor .pack).pack .a).state.working = true ∧
      (swapCase.evaluateFor .pack).pbc.connected.get .a = true := by decide

/-- Both packs of section 3.13 are eligible before the sample and after it, and one sample's step follows (R50, R61). -/
theorem witness_PowerSampleIsEvaluated :
    let t := got (exec (.powerSample 19800 3100) budgetCase)
    budgetCase.lnk.canStart = false ∧ budgetCase.psq.held = none ∧ (∀ q, t.eligible q = budgetCase.eligible q) ∧
      (t.cbu.budget.packs.get .a).inC.isSome = true :=
  ⟨rfl, rfl, fun q => by cases q <;> decide +kernel, by decide +kernel⟩

/-- Section 3.13 beyond its contract: both set points fall before a path switch closes (R40, R55). -/
theorem test_cuts_before_the_switch :
    (got (exec (.powerSample 19800 4798) chargingCase)).outs = chargingCase.outs ++
      [.charger .a 0, .charger .b 0, .pathSwitch .b true] := by decide +kernel

/-- Section 3.13 with pack B supplying the system and its weight 15 to pack A's 1: the first evaluation of a sample gives pack A
the headroom and frees pack B; the second splits it, and pack A's share is below 128 milliamps (R35, R50, R58, R59). -/
def outweighed : State :=
  { budgetCase with
    sst := { budgetCase.sst with settings := (budgetCase.sst.settings.set .packWeightA 1).set .packWeightB 15 }
    pbc := { budgetCase.pbc with
      packs := ⟨packOf .ready 12600 3000 40 300 0, packOf .discharging 16400 2000 55 280 0⟩, connected := ⟨false, true⟩ }
    cbu := { budgetCase.cbu with budget := { budgetCase.cbu.budget with mode := .assist, connected := ⟨false, true⟩ } } }

/-- Pack A is READY before and after and CHARGING between the two, and has its PACK notice (R35). -/
theorem test_move_and_back_is_noticed :
    let t := got (exec (.powerSample 19800 3100) outweighed)
    (t.pack .a).state = .ready ∧ .pack .a (t.packView .a) ∈ t.lnk.notices := by decide +kernel

theorem witness_EvaluationSettles_moves :
    outweighed.lnk.notices.length ≤ 14 ∧ (outweighed.setPim ⟨some ⟨19800, 3100⟩, true⟩).Moves .sample .a :=
  ⟨by decide, .inl (by decide +kernel)⟩

/-- OVERDRAW with its timer running. -/
def overdrawing : State :=
  { overdrawn with cbu := { overdrawn.cbu with budget := { Budget.initial with mode := .overdraw, overdraw := some 2000 } } }

theorem witness_OverdrawExpiryTrips :
    overdrawing.LatchHolds ∧ overdrawing.cbu.budget.overdraw.isSome = true ∧ overdrawing.cbu.budget.mode = .overdraw ∧
      overdrawing.flm.latch.isSet = false ∧ running.cbu.budget.overdraw = none :=
  ⟨⟨⟨rfl, rfl, rfl, by decide, by decide, by decide⟩, by decide⟩, rfl, rfl, rfl, rfl⟩

/-! ### The adapter -/

theorem witness_AdapterPresenceEdges :
    (State.reset.pim.presence = false ∧ State.reset.adn.state = .detached) ∧
      (powered.pim.presence = true ∧ powered.adn.pContract ≠ 0) := by decide

theorem witness_CandidateRanking :
    offers9[3]? = some ⟨20000, 4500⟩ ∧ offers9[2]? = some ⟨15000, 3000⟩ ∧ powered.adn.offers[3]? = some ⟨20000, 4500⟩ := by decide

theorem witness_AbilityStartsASelection :
    (1 ≤ offers9.length ∧ offers9.length ≤ 6 ∧
      (∀ o ∈ offers9, 5000 ≤ o.voltage ∧ o.voltage ≤ 48000 ∧ o.voltage % 100 = 0 ∧ o.current ≤ 5000 ∧ o.current % 10 = 0) ∧
      powered.adn.state ≠ .detached ∧
      rankCandidates (powered.setting .adapterVMin) (powered.setting .adapterVMax) (powered.settingN .powerCapMw) offers9 =
        3 :: [2, 1] ∧
      rankCandidates (powered.setting .adapterVMin) (powered.setting .adapterVMax) (powered.settingN .powerCapMw)
        [⟨5000, 3000⟩] = []) ∧
      (6 < (List.replicate 7 (Offer.mk 9000 3000)).length ∧ State.reset.adn.state = .detached ∧
        (∃ o ∈ [Offer.mk 4900 3000], o.voltage < 5000) ∧ (∃ o ∈ [Offer.mk 48100 3000], 48000 < o.voltage) ∧
        (∃ o ∈ [Offer.mk 9050 3000], o.voltage % 100 ≠ 0) ∧ (∃ o ∈ [Offer.mk 9000 5010], 5000 < o.current) ∧
        (∃ o ∈ [Offer.mk 9000 3005], o.current % 10 ≠ 0)) := by decide

/-- The cut of the selection of section 1.10 lowers the charge current of pack A. -/
theorem witness_AbilityStartsASelection_cut :
    let cut := ({ chargingCase with adn := { chargingCase.adn with
      offers := offers10, candidates := 2 :: [3, 1], tried := [], outstanding := none, timer := none
      pContract := min (({ chargingCase with adn := { chargingCase.adn with offers := offers10 } } : State).pOffer 2)
        chargingCase.adn.pContract } } : State).handContract chargingCase
    (cut.cbu.budget.packs.get .a).iApp < (chargingCase.cbu.budget.packs.get .a).iApp := by decide

/-- SELECTING with offer 2 of section 1.10 outstanding, and with the second candidate tried too. -/
def selecting : State := { powered with adn := ⟨.selecting, offers10, [2, 3, 1], [2], some 2, some 50, contract9.record, 42714⟩ }
def selectingLast : State := { selecting with adn := { selecting.adn with tried := [2, 3], outstanding := some 3 } }

theorem witness_AcceptAndReady :
    (2 ≤ 5 ∧ selecting.adn.state = .selecting ∧ selecting.adn.outstanding = some 2) ∧
      (switching.adn.state = .switching ∧ switching.adn.outstanding = some 3 ∧
        switching.adn.offers[3]? = some ⟨20000, 4500⟩) ∧
      selecting.adn.outstanding ≠ some 1 ∧ powered.adn.state ≠ .selecting ∧ powered.adn.state ≠ .switching := by decide

theorem witness_SelectionFailures :
    (selecting.adn.state = .selecting ∧ selecting.adn.tried.length < 2 ∧
      selecting.adn.candidates.find? (fun i => !selecting.adn.tried.contains i) = some 3 ∧
      (∃ i, i ≤ 5 ∧ selecting.adn.outstanding = some i ∧ Instr.reject true 2 = .reject true i)) ∧
      (selectingLast.adn.state = .selecting ∧ 2 ≤ selectingLast.adn.tried.length) ∧
      switching.adn.state = .switching ∧ powered.adn.state ≠ .selecting ∧ powered.adn.state ≠ .switching :=
  ⟨⟨by decide, by decide, by decide, 2, by decide, rfl, rfl⟩, by decide, by decide, by decide, by decide⟩

/-- QUERYING with a sample of 4500 millivolts, the least that gives legacy power. -/
def querying : State := { State.reset with adn := { Adn.initial with state := .querying, timer := some 500 }, pim := ⟨some ⟨4500, 10⟩, true⟩ }

theorem witness_AbilityTimerAndRenegotiation :
    (querying.adn.state = .querying ∧ querying.pim.sample = some ⟨4500, 10⟩ ∧ 4500 ≤ (PowerSample.mk 4500 10).vBus) ∧
      (PowerSample.mk 4499 10).vBus < 4500 ∧ State.reset.adn.state ≠ .querying ∧
      State.reset.replyCount < 8 ∧ State.reset.adn.state = .detached ∧ powered.adn.state ≠ .detached := by decide

/-! ### The packs -/

/-- The state with an operation on the bus. -/
def onBus (s : State) (o : BusOp) : State := s.setPbc { s.pbc with ops := [o], busTimer := some 35 }

/-- The states of the presence edges and polls below have no frame to start, no held start and room for notices. -/
theorem witness_PacksNoticed :
    ∀ s ∈ [State.reset, swapCase], s.lnk.canStart = false ∧ s.psq.held = none ∧ s.lnk.notices.length ≤ 8 ∧ s.ScansInRun := by
  intro s hs
  simp only [List.mem_cons, List.not_mem_nil, or_false] at hs
  rcases hs with rfl | rfl <;> exact ⟨rfl, rfl, by decide, nofun⟩

theorem witness_PackPresenceEdges :
    (State.reset.hasPack .a = true ∧ (State.reset.pack .a).state = .absent ∧ State.reset.pollsOf .a = [] ∧
      (onBus State.reset ⟨.a, .poll, true⟩).pollsOf .a ≠ []) ∧
      (swapCase.hasPack .b = true ∧ (swapCase.pack .b).state ≠ .absent ∧ swapCase.lnk.canStart = false) ∧
      ({ State.reset with sst := { State.reset.sst with straps := { Straps.initial with twoPacks := false } } } : State).hasPack .b =
        false := by decide

theorem witness_PollTimerAndBusStart :
    (swapCase.pack .a).pollTimer.isSome = true ∧ (State.reset.pack .a).pollTimer = none ∧
      ((swapCase.setPbc { swapCase.pbc with busTimer := none }).pbc.busTimer = none ∧
        (swapCase.setPbc { swapCase.pbc with busTimer := none }).pbc.ops = [⟨.a, .poll, false⟩]) ∧
      swapCase.pbc.busTimer.isSome = true ∧ State.reset.pbc.ops = [] := by decide

theorem witness_PollCompletes :
    (swapCase.pbc.busTimer.isSome = true ∧ swapCase.pbc.ops = [⟨.a, .poll, false⟩] ∧ (swapCase.pack .a).state ≠ .absent) ∧
      ([] : List Word16).length ≠ 7 ∧
      ((onBus State.reset ⟨.a, .poll, true⟩).pbc.busTimer.isSome = true ∧
        (onBus State.reset ⟨.a, .poll, true⟩).pbc.ops = [⟨.a, .poll, true⟩] ∧ ([0, 0, 0, 0, 0, 0, 0] : List Word16).length = 7) := by
  decide

/-- STANDBY on pack A alone, its poll on the bus and its charge at 12 percent. -/
def spending (wakeList : List WakeReason) : State :=
  { sleeping with
    psq := { sleeping.psq with wakeList := wakeList }
    pbc := ⟨⟨packOf .discharging 15200 0 12 300 (-100), .initial⟩, [⟨.a, .poll, false⟩], some 35, ⟨true, false⟩⟩ }

/-- The poll may set the low flag at 10 percent, and both flags at 2 with the other pack spent; in RUN neither shuts down. -/
theorem witness_PollCompletes_events :
    ((spending []).pbc.busTimer.isSome = true ∧ (spending []).pbc.ops = [⟨.a, .poll, false⟩] ∧
      ((spending []).pack .a).state ≠ .absent ∧ (spending []).psq.held = none ∧ (spending []).psq.wakeList = [] ∧
      ((spending []).pack .a).gauge.isSome = true ∧ ((spending []).pack .a).low = false ∧
      ((10 : Nat) : Int) ≤ (spending []).setting .packLowPct ∧ ¬ (((10 : Nat) : Int) ≤ (spending []).setting .packCritPct) ∧
      ((spending []).pack .a).critical = false ∧ ((2 : Nat) : Int) ≤ (spending []).setting .packCritPct ∧
      (spending []).psq.state = .standby ∧ (spending []).adn.pContract = 0 ∧
      ((spending []).pack (otherPack .a)).dischargeable = false) ∧
      swapCase.psq.held = none ∧ swapCase.psq.state ≠ .standby := by decide

/-- Section 2.15 after two failures of pack A in a row. -/
def failing : State := swapCase.setPack .a { swapCase.pack .a with failCount := 2 }

theorem witness_PollFails :
    (swapCase.pbc.ops = [⟨.a, .poll, false⟩] ∧ (swapCase.pack .a).state ≠ .absent ∧ (swapCase.pack .a).failCount ≠ 2) ∧
      (failing.pbc.busTimer.isSome = true ∧ failing.pbc.ops = [⟨.a, .poll, false⟩] ∧ (failing.pack .a).state ≠ .absent ∧
        (failing.pack .a).failCount = 2 ∧
        ¬ ((failing.pack .a).state = .halted ∧ (failing.pack .a).cause = some .gaugeSilent) ∧
        failing.flm.marks.length = 31 ∧ (failing.pack .a).state ≠ .halted) ∧
      State.reset.pollOnBus .a = none := by decide

theorem witness_PollFails_notices :
    failing.lnk.canStart = false ∧ failing.psq.held = none ∧ failing.lnk.notices.length ≤ 12 := by decide

theorem witness_RawReads :
    State.reset.replyCount < 8 ∧
      ((onBus swapCase ⟨.b, .rawRead 9 1, false⟩).pbc.busTimer.isSome = true ∧
        (onBus swapCase ⟨.b, .rawRead 9 1, false⟩).pbc.ops = [⟨.b, .rawRead 9 1, false⟩]) ∧
      State.reset.rawOnBus .a = none ∧ ([] : List Word16).length ≠ 1 := by decide

/-! ### Host requests -/

/-- A reply queue with the last place taken, and with none taken. -/
def noRoom : State := State.reset.setLnk { State.reset.lnk with replies := List.replicate 8 ⟨0x81, 0, [0]⟩ }
def lastRoom : State := State.reset.setLnk { State.reset.lnk with replies := List.replicate 7 ⟨0x81, 0, [0]⟩ }

theorem lastRoom_hasRoom : lastRoom.hasRoom := by
  unfold State.hasRoom
  decide

theorem witness_RequestTests :
    requestOf (.identify 5 [0]) = some (0x01, 5, [0]) ∧ 8 ≤ noRoom.replyCount ∧ lastRoom.hasRoom ∧
      lengthFits 0x01 [0] = false ∧ 0x1A < (0x1B : Byte).toNat :=
  ⟨rfl, by decide, lastRoom_hasRoom, rfl, by decide⟩

theorem witness_ReportsAnswer :
    lastRoom.hasRoom ∧ lastRoom.fnc.curveOpen.length ≤ 8 ∧ lastRoom.fnc.curveClosed.length ≤ 8 ∧
      lastRoom.mxs.keys.length = 144 ∧ lastRoom.mxs.lines.length = 18 :=
  ⟨lastRoom_hasRoom, by decide, by decide, by decide +kernel, by decide⟩

theorem witness_SettingReads : lastRoom.hasRoom := lastRoom_hasRoom

theorem witness_SettingWrites : lastRoom.hasRoom ∧ SettingId.efficiency ≠ .wakeMask := ⟨lastRoom_hasRoom, by decide⟩

theorem witness_PackRequests :
    lastRoom.hasRoom ∧ (0 : Byte).toNat = packCode .a ∧ lastRoom.hasPack .a = true ∧ lastRoom.cbu.enable.get .a = true :=
  ⟨lastRoom_hasRoom, rfl, rfl, rfl⟩

/-- The points of a payload: -40.0 and 150.0 degrees, duties 0 and 100, the bounds of R84. -/
def boundPoints : List Byte := [0x70, 0xFE, 0, 0xDC, 0x05, 100]

theorem witness_TableWrites :
    lastRoom.hasRoom ∧
      (boundPoints.length = 3 * (2 : Byte).toNat ∧ (1 : Byte).toNat ≤ 1 ∧ 2 ≤ (2 : Byte).toNat ∧ (2 : Byte).toNat ≤ 8 ∧
        (∀ q ∈ curvePoints (1 :: 2 :: boundPoints) 2 2, -400 ≤ q.temp ∧ q.temp ≤ 1500 ∧ q.duty ≤ 100) ∧
        (curvePoints (1 :: 2 :: boundPoints) 2 2).Pairwise (fun a b => a.temp < b.temp ∧ a.duty ≤ b.duty)) ∧
      (1 < (2 : Byte).toNat ∧ (1 : Byte).toNat < 2 ∧ 8 < (9 : Byte).toNat ∧
        (∃ q ∈ curvePoints [0, 2, 0x6F, 0xFE, 0, 0, 0, 0] 2 2, q.temp < -400) ∧
        (∃ q ∈ curvePoints [0, 2, 0, 0, 0, 0xDD, 0x05, 0] 2 2, 1500 < q.temp) ∧
        (∃ q ∈ curvePoints [0, 2, 0, 0, 101, 0, 0, 0] 2 2, 100 < q.duty) ∧
        ¬ (curvePoints [0, 2, 5, 0, 0, 5, 0, 0] 2 2).Pairwise (fun a b => a.temp < b.temp ∧ a.duty ≤ b.duty)) ∧
      (List.replicate 16 (0 : Byte)).length = 16 :=
  ⟨lastRoom_hasRoom, by decide, by decide, by decide⟩

theorem keyed_railsFollow : keyed.RailsFollow := ⟨rfl, rfl, rfl, by decide, by decide, by decide⟩

/-- The lid closed on a scanning part, before the MXS has decided. -/
def closing : State := typed.setPsq { typed.psq with lidConfirmed := true }

theorem witness_FanAndKeyControl :
    lastRoom.hasRoom ∧ 1 < (2 : Byte).toNat ∧ (1 : Byte).toNat ≤ 1 ∧ (0 : Byte).toNat ≤ 1 ∧ keyed.hasRoom ∧
      keyed.mxs.lines.length = 18 ∧ keyed.RailsFollow ∧ keyed.mxs.cond = .scanning :=
  ⟨lastRoom_hasRoom, by decide, by decide, by decide, by unfold State.hasRoom; decide, by decide, keyed_railsFollow, rfl⟩

/-- One key down is due a release, behind a waiting transition or straight to the key queue. -/
theorem witness_FanAndKeyControl_sweep :
    closing.mxs.cond = .scanning ∧ closing.psq.lidConfirmed = true ∧ closing.mxs.keys.length = 144 ∧
      (headed 130 true).mxs.keys.length = 144 ∧ (headed 130 true).mxs.pending ≠ [] ∧
      (closing.mxs.pending = [] ∧ closing.mxs.stalled = false ∧
        closing.mxs.queue.length + ((List.range 144).filter (fun c => closing.mxs.expected c && !(closing.mxs.key c).resync)).length <
          closing.settingN .keyQUpper) := by decide +kernel

theorem witness_PowerAndFaultRequests : lastRoom.hasRoom := lastRoom_hasRoom

theorem witness_FramesAndFields :
    255 < 256 ^ 1 ∧ (1 ≤ 1 ∧ -(256 ^ 1 : Int) ≤ 2 * (-128) ∧ 2 * 127 < (256 ^ 1 : Int)) ∧
      (requestOf (.fanCurveWrite 1 (List.replicate 56 0)) = some (0x0B, 1, List.replicate 56 0) ∧
        (List.replicate 56 (0 : Byte)).length ≤ 56 ∧ State.reset.lnk.framer.phase = .hunt) := by decide

/-! ### Thermal sensing and fans -/

theorem witness_SensorReadings :
    ((-400 : Int) ≤ -400 ∧ (1500 : Int) ≤ 1500) ∧ (SensorStatus.shorted ≠ .normal ∧ (-401 : Int) < -400 ∧ (1500 : Int) < 1501) ∧
      (∃ t, exec (.sensorReading 3 .normal 1050) marked = .next t ∧ t.thm.aggregate = .valid 1050 3 ∧
        marked.thm.critArm = true ∧ marked.setting .thermCrit ≤ 1050) ∧ marked.LatchHolds ∧
      (∃ t, exec (.sensorReading 3 .openWire 0) marked = .next t ∧ t.thm.aggregate = .invalid 0 .openWire) ∧
      (∃ t, exec (.sensorReading 3 .normal 1050) marked = .next t ∧ t.thm.d ≠ marked.thm.d ∧
        marked.flm.latch.isSet = false ∧ t.flm.latch.isSet = true) :=
  ⟨by decide, by decide, ⟨_, rfl, by decide, by decide, by decide⟩,
    ⟨⟨rfl, rfl, rfl, by decide, by decide, by decide⟩, by decide⟩, ⟨_, rfl, by decide⟩, ⟨_, rfl, by decide, by decide, by decide⟩⟩

theorem witness_DerateFactor :
    running.sst.settings.Valid ∧ (∀ v n, running.thm.aggregate ≠ .valid v n) ∧
      (running.setting .derateEnd ≤ 900 ∧ (700 : Int) ≤ running.setting .derateStart ∧
        running.setting .derateStart < 701 ∧ (899 : Int) < running.setting .derateEnd) ∧
      (∀ f, running.hasFan f = true → (running.fnc.fans.get f).degraded = false) ∧
      (∃ f g, losing.hasFan f = true ∧ losing.hasFan g = true ∧ (losing.fnc.fans.get f).degraded = true ∧
        (losing.fnc.fans.get g).degraded = false) :=
  ⟨defaults_valid, fun _ _ h => (nomatch h), by decide, fun f _ => by cases f <;> rfl, .f1, .f0, rfl, rfl, rfl, rfl⟩

theorem witness_DerateFactor_every_fan (f : FanId) :
    let s := running.setFnc { Fnc.initial with
      fans := ⟨{ FanSlot.initial with degraded := true }, { FanSlot.initial with degraded := true }⟩ }
    s.hasFan f = true → (s.fnc.fans.get f).degraded = true := by
  cases f <;> decide

theorem witness_CurvesAndDuties :
    (curveOk defaultCurveOpen = true ∧ defaultCurveOpen = ⟨400, 0⟩ :: defaultCurveOpen.tail ∧
      defaultCurveOpen.getLast? = some ⟨950, 100⟩ ∧
      defaultCurveOpen = [⟨400, 0⟩] ++ ⟨550, 30⟩ :: ⟨700, 55⟩ :: [⟨850, 80⟩, ⟨950, 100⟩] ∧ (550 : Int) ≤ 550 ∧ (699 : Int) < 700) ∧
      State.reset.psq.state ≠ .run ∧
      ((warm 780 0 0 false).psq.state = .run ∧ (warm 780 0 0 false).thm.aggregate = .valid 780 2) ∧
      (running.psq.state = .run ∧ running.thm.aggregate = .pending) ∧ running.hasFan .f1 = true := by decide

theorem witness_TachReports :
    (stalling.psq.state = .run ∧ stalling.hasFan .f1 = true ∧ (stalling.fnc.fans.get .f1).stall + 1 = 3) ∧
      State.reset.psq.state ≠ .run := by decide

/-! ### The key path -/

theorem witness_ScanPasses :
    keyed.mxs.cond = .scanning ∧ keyed.mxs.keys.length = 144 ∧ keyed.mxs.lines.length = 18 ∧ State.reset.mxs.cond ≠ .scanning := by
  decide +kernel

theorem witness_ScanPasses_settings : keyed.sst.settings.Valid ∧ keyed.RailsFollow ∧ keyed.ScansInRun :=
  ⟨defaults_valid, keyed_railsFollow, fun _ => rfl⟩

/-- Line 2 about to be isolated, its key 20 down for the host; line 3 about to be restored; key 40 about to be pressed; with
the list held up behind a stalled queue, and with the lists free and no window. -/
def passing (pending : List Transition) (stuck restore : Nat) : State :=
  { keyed with
    hkm := Hkm.initial
    mxs := { keyed.mxs with
      pending := pending
      keys := (keyed.mxs.keys.set 20 { KeyRec.up with debounced := true, reported := true }).set 40 { KeyRec.up with count := 3 }
      lines := (keyed.mxs.lines.set 2 { LineRec.initial with stuck := stuck }).set 3
        { LineRec.initial with isolated := true, restore := restore } } }

/-- The snapshot with every key of line 2 down, and key 40. -/
def column : BitVec 144 := (List.range 8).foldl (fun v d => v ||| 1 <<< (d * 18 + 2)) (1 <<< 40)

/-- R100, R102: a release of origin LINE for the one key of the line that is down for the host, then the press of origin SCAN. -/
theorem test_isolation_then_press :
    let t := got (exec (.scanPass column) (passing [] 3999 0))
    t.mxs.queue = [⟨20, false, 1, .line⟩, ⟨40, true, 1, .scan⟩] ∧ (t.mxs.line 2).isolated = true ∧ (t.mxs.key 20).debounced = false ∧
      t.flm.log.getLast? = some ⟨1, .keyLineStuck, .keyline 2, some 1, .run⟩ := by
  decide +kernel

theorem witness_ScanPasses_transitions :
    (∀ s ∈ [passing [⟨5, true, 0, .scan⟩] 3999 0, passing [] 3999 0, passing [⟨5, true, 0, .scan⟩] 0 3],
      s.mxs.cond = .scanning ∧ s.mxs.keys.length = 144 ∧ s.mxs.lines.length = 18 ∧ s.lnk.canStart = false ∧
        s.mxs.stalled = false ∧ (∀ w ∈ s.hkm.windows, w.enabled = false) ∧ s.mxs.queue.length + 2 < s.settingN .keyQUpper ∧
        s.flm.marks.length = 31 ∧ s.flm.mark (.keyline 2) ≠ some .keyLineStuck) ∧
      ((got (exec (.scanPass column) (passing [⟨5, true, 0, .scan⟩] 3999 0))).mxs.line 2).isolated = true ∧
      ((got (exec (.scanPass 0) (passing [⟨5, true, 0, .scan⟩] 0 3))).mxs.line 3).isolated = false := by
  decide +kernel

theorem witness_ScanPasses_rails (pending : List Transition) (stuck restore : Nat) :
    (passing pending stuck restore).sst.settings.Valid ∧ (passing pending stuck restore).RailsFollow ∧
      (passing pending stuck restore).ScansInRun :=
  ⟨defaults_valid, ⟨rfl, rfl, rfl, nofun, by simp [passing, keyed, running, State.setPsq, Psq.initial], fun _ => rfl⟩,
    fun _ => rfl⟩

theorem witness_ActivityPasses :
    sleeping.mxs.cond = .activity ∧ sleeping.mxs.lines.length = 18 ∧ sleeping.psq.state = .standby ∧ sleeping.psq.wakeList = [] ∧
      (sleeping.settingN .wakeMask).testBit 2 = true ∧ sleeping.mxs.armed = true ∧
      sleeping.settingN .debouncePasses ≤ (sleeping.mxs.line 2).activity + 1 ∧ State.reset.mxs.cond ≠ .activity := by
  decide

theorem witness_ActivityPasses_settings : sleeping.sst.settings.Valid :=
  ⟨fun i => by cases i <;> decide, by decide, by decide, by decide, by decide, by decide⟩

/-- Keys 40 and 41 flagged while the lists are free: a resync is due. -/
def flagged : State :=
  let k : KeyRec := { KeyRec.up with debounced := true, resync := true }
  keyed.setMxs { keyed.mxs with keys := (keyed.mxs.keys.set 40 k).set 41 k }

theorem witness_HandOffsAndResyncs :
    (headed 130 true).mxs.pending = [⟨130, true, 7, .scan⟩] ∧ State.reset.mxs.pending = [] ∧
      (∃ u, (headed 20 true).tryHandOff = some u ∧ u.tryAction = none ∧ u.tryHandOff = none) ∧
      ∃ u, voided.tryHandOff = some u ∧ voided.hkm.queue ≠ [] ∧ u.tryHandOff = none := by
  refine ⟨by decide, by decide, ⟨_, rfl, by decide, by decide⟩, _, rfl, by decide, by decide⟩

/-- Two pending presses that no window matches. -/
def headedTwice : State :=
  { headed 20 true with
    hkm := Hkm.initial, mxs := { keyed.mxs with pending := [⟨20, true, 7, .scan⟩, ⟨21, true, 7, .scan⟩] } }

theorem witness_HandOffsAndResyncs_chain :
    (∃ u v, headedTwice.tryHandOff = some u ∧ u.tryAction = none ∧ u.tryHandOff = some v ∧ v.tryAction = none ∧
      v.tryHandOff = none) ∧
      headedTwice.mxs.stalled = false ∧ (∀ w ∈ headedTwice.hkm.windows, w.enabled = false) ∧
      headedTwice.mxs.queue.length + headedTwice.mxs.pending.length < headedTwice.settingN .keyQUpper ∧
      (headedTwice.mxs.pending.map Transition.code).Nodup := by
  refine ⟨⟨_, _, rfl, by decide, rfl, by decide, by decide⟩, by decide, by decide, by decide, by decide⟩

theorem witness_HandOffsAndResyncs_resync :
    State.reset.mxs.resyncDue = false ∧ flagged.mxs.resyncDue = true ∧ flagged.mxs.keys.length = 144 ∧
      flagged.runResync.mxs.pending.length < 16 ∧
      ((flagged.mxs.key 40).resync = true ∧ (flagged.mxs.key 41).resync = true ∧ (flagged.runResync.mxs.key 41).resync = false ∧
        (flagged.runResync.mxs.key 40).resync = false ∧ (flagged.mxs.key 40).debounced ≠ (flagged.mxs.key 40).reported) := by
  decide +kernel

/-- A waiting action, with and without room for its notice, and two in a row. -/
def acting : State := keyed.setHkm { keyed.hkm with queue := [10] }
def waiting : State := acting.setLnk { acting.lnk with notices := List.replicate 16 (.lid true) }
def actingTwice : State := keyed.setHkm { keyed.hkm with queue := [10, 10] }

theorem witness_ActionExecutions :
    acting.hkm.queue = [10] ∧ State.reset.hkm.queue = [] ∧ waiting.hkm.queue ≠ [] ∧ waiting.tryAction = none ∧
      16 ≤ waiting.lnk.notices.length ∧ acting.lnk.notices.length < 16 ∧
      ∃ u, acting.tryAction = some u ∧ u.tryAction = none ∧ u.tryHandOff = none :=
  ⟨rfl, rfl, by decide, by decide, by decide, by decide, _, rfl, by decide, by decide⟩

theorem witness_ActionExecutions_next :
    (actingTwice.lnk.notices.length < 16 ∧
      ∃ u v, actingTwice.tryAction = some u ∧ u.tryAction = some v ∧ v.tryAction = none ∧ v.tryHandOff = none) ∧
      ((headed 130 true).hkm.queue = [] ∧
        ∃ u v, (headed 130 true).tryHandOff = some u ∧ u.tryAction = some v ∧ v.tryAction = none ∧ v.tryHandOff = none) :=
  ⟨⟨by decide, _, _, rfl, rfl, by decide, by decide⟩, rfl, _, _, rfl, rfl, by decide, by decide⟩

/-! ### System power -/

theorem witness_DebouncedInputs :
    pressed.psq.buttonTimer.isSome = true ∧ (pressed.setPsq { pressed.psq with lidTimer := some 50 }).psq.lidTimer.isSome = true ∧
      State.reset.psq.buttonTimer = none ∧ State.reset.psq.lidTimer = none := by decide

theorem witness_WakeEvents :
    State.reset.inMask .timer = false ∧ State.reset.inMask .button = true ∧ sleeping.psq.state = .standby ∧
      sleeping.inMask .key = true ∧ State.reset.psq.state = .off ∧ settling.psq.state = .seqUp ∧ settling.inMask .lid = true ∧
      running.psq.state = .run ∧ State.reset.inMask .restart = true ∧ WakeReason.restart ≠ .button ∧
      WakeReason.restart ≠ .lid ∧ WakeReason.restart ≠ .adapter := by decide

/-- A held start in OFF, without and with power permission. -/
def holding : State := State.reset.setPsq { Psq.initial with held := some 1000, startKind := some .wake, wakeList := [.button] }
def permitted : State := { holding with adn := contract9 }

theorem witness_PowerUp :
    (State.reset.psq.mainGood = false ∧ State.reset.psq.coreGood = false ∧ running.psq.good .main = true) ∧
      (settling.psq.state = .seqUp ∧ settling.psq.step = some .settle) ∧
      ¬ (running.psq.state = .seqUp ∧ running.psq.step = some .settle) ∧
      (settling.psq.lidConfirmed = false ∧ settling.lnk.canStart = false ∧ settling.lnk.notices.length < 14) ∧
      (permitted.psq.held.isSome = true ∧ permitted.permission = true) ∧
      State.reset.psq.held = none ∧ holding.permission = false ∧ holding.psq.held.isSome = true := by decide

theorem witness_PowerUp_rails : settling.RailsFollow := ⟨rfl, rfl, rfl, by decide, by decide, by decide⟩

/-- SEQ_DOWN on the way to OFF and to TRIPPED. -/
def falling (target : DownTarget) : State :=
  running.setPsq { running.psq with
    state := .seqDown, hrst := true, coreOn := false, step := some .coreWait, stepTimer := some 50, downTarget := some target
    downCause := some .request }

theorem witness_SeqDownReachesItsTarget :
    (running.psq.state ≠ .standby ∧ running.psq.coreGood = true) ∧
      (slowCore.psq.state = .standby ∧ slowCore.psq.coreGood = true) ∧
      (sleeping.psq.coreGood = false ∧ sleeping.psq.wakeList = [] ∧ DownCause.request ≠ .restart) ∧
      (slowCore.psq.state = .standby ∧ slowCore.psq.wakeList = [] ∧ DownCause.forcedOff ≠ .restart) ∧
      (falling .standby).psq.downTarget = some .standby ∧ (falling .tripped).psq.downTarget = some .tripped ∧
      ((falling .off).psq.downTarget = some .off ∧ (falling .off).psq.held = none) := by decide

theorem witness_SeqDownReachesItsTarget_notices :
    (∀ d, (falling d).psq.downCause = some .request) ∧ State.reset.psq.state = .off := ⟨fun _ => rfl, rfl⟩

/-- R132: HRST, then CORE, then MAIN. -/
theorem test_rails_fall_in_order :
    (got (exec (.powerGoodFall .core) (got (exec (.powerStateRequest 1 [1]) running)))).outs =
      running.outs ++ [.hostReset true, .railEnable .core false, .railEnable .main false] := by decide

theorem witness_PowerDownEvents : running.psq.good .core = true ∧ State.reset.psq.good .core = false := by decide

/-! ### Faults and the latch -/

/-- U set, and the link's source marked silent. -/
def urgentState (advisory : Int) (u : Bool) : State :=
  { running with
    flm := { Flm.initial with u := u, marks := Flm.initial.marks.set (sourceCode (.pack .a)) (some .packSilent) }
    sst := { running.sst with settings := running.sst.settings.set .advisoryNotices advisory } }

theorem witness_ReportsAreLogged :
    (isMarking .packSilent = true ∧ (urgentState 1 true).flm.mark (.pack .a) = some .packSilent) ∧
      ¬ (isMarking .linkCheck = true ∧ running.flm.mark .link = some .linkCheck) ∧
      faultClass .linkCheck = .advisory ∧ (urgentState 0 true).setting .advisoryNotices = 0 ∧
      ((urgentState 1 false).setting .advisoryNotices ≠ 0 ∧ (urgentState 1 false).flm.u = false) ∧
      ((urgentState 1 true).setting .advisoryNotices ≠ 0 ∧ (urgentState 1 true).flm.u = true) := by decide

/-- TRIPPED on RAIL_FAULT with the rails off, without and with a contract. -/
def tripped (cause : Option Bool) (adn : Adn) : State :=
  { State.reset with
    adn := adn
    psq := { Psq.initial with state := .tripped }
    flm := { Flm.initial with latch := ⟨cause, some true, none⟩ } }

theorem witness_LatchAndRelease :
    protectCauseOf .railFault = some .railFault ∧ running.flm.latch.isSet = false ∧
      ((tripped (some true) contract9).psq.state = .tripped ∧
        (tripped (some true) contract9).releaseTests.flm.latch.allClear = false) ∧
      ((tripped none .initial).releaseTests.flm.latch.allClear = true ∧ (tripped none .initial).permission = false) ∧
      ((tripped none contract9).releaseTests.flm.latch.allClear = true ∧ (tripped none contract9).permission = true) := by decide

theorem witness_WatchdogExpires :
    (hung.flm.watchdog.isSome = true ∧ hung.flm.u = true) ∧
      ((hung.setFlm { hung.flm with u := false }).flm.watchdog.isSome = true ∧
        (hung.setFlm { hung.flm with u := false }).flm.u = false) ∧ State.reset.flm.watchdog = none := by decide

/-! ### The link -/

/-- A state whose framer stands in a phase. -/
def framing (f : Framer) : State := State.reset.setLnk { State.reset.lnk with framer := f }

theorem witness_LinkEvents :
    State.reset.lnk.framer.phase = .hunt ∧
      ((framing ⟨.header, [1], [], 1, some 5⟩).lnk.framer.phase = .header ∧
        (framing ⟨.header, [1], [], 1, some 5⟩).lnk.framer.header.length < 2) ∧
      ((framing ⟨.header, [1, 2], [], 3, some 5⟩).lnk.framer.header.length = 2 ∧ (56 : Byte).toNat ≤ 56 ∧ 56 < (57 : Byte).toNat) ∧
      (framing ⟨.payload, [1, 2, 4], [0], 7, some 5⟩).lnk.framer.phase = .payload ∧
      ((framing ⟨.check, [1, 2, 0], [], 3, some 5⟩).lnk.framer.phase = .check ∧
        (framing ⟨.check, [1, 2, 0], [], 3, some 5⟩).lnk.framer.sum + (0xFD : Byte) = 0 ∧
        (framing ⟨.check, [1, 2, 0], [], 3, some 5⟩).lnk.framer.sum + (0xFC : Byte) ≠ 0) ∧
      draining.softResetBy (.frameEnd ⟨false, false, false⟩) = none := by decide

/-- The transmitter idle and the host ready, with something in one source or in none. -/
def idle (l : Lnk) : State := { draining with mxs := Mxs.initial, lnk := { l with hrdy := true, tx := none } }

theorem witness_OutboundQueues :
    (draining.lnk.tx.isSome = true ∧ State.reset.lnk.hrdy = false) ∧
      ((idle full.lnk).lnk.tx = none ∧ (idle full.lnk).lnk.hrdy = true ∧ (idle full.lnk).lnk.urgent ≠ []) ∧
      ((idle Lnk.initial).lnk.urgent = [] ∧ (∀ src ∈ (idle Lnk.initial).lnk.phases, (idle Lnk.initial).holds src = false) ∧
        (idle Lnk.initial).lnk.phases.length = 16) ∧
      ((idle draining.lnk).lnk.urgent = [] ∧ 5 < 16 ∧
        (idle draining.lnk).holds ((idle draining.lnk).lnk.phases.getD (((idle draining.lnk).lnk.pointer + 5) % 16) .reply) = true ∧
        (∀ j, j < 5 →
          (idle draining.lnk).holds ((idle draining.lnk).lnk.phases.getD (((idle draining.lnk).lnk.pointer + j) % 16) .reply) =
            false)) ∧
      ((∃ x ∈ State.reset.lnk.notices, Notice.sameKey (.reset .soft) x = true) ∨
        ∃ x ∈ State.reset.lnk.notices, Notice.sameKey (.state .run .reset false) x = true) ∧
      ((∀ x ∈ State.reset.lnk.notices, Notice.sameKey (.lid true) x = false) ∧ State.reset.lnk.notices.length < 16) ∧
      ((∀ x ∈ full.lnk.notices, Notice.sameKey (.state .run .reset false) x = false) ∧ 16 ≤ full.lnk.notices.length) := by decide

/-- A notice queue of 16 with an action that waits; and a stalled key queue that one KEYS frame brings to KEY_Q_LOWER, with a
head that waits. -/
def crowded : State := { acting with lnk := { Lnk.initial with hrdy := true, notices := List.replicate 16 (.lid true) } }
def loosening : State :=
  { headed 20 true with
    lnk := { Lnk.initial with hrdy := true }
    mxs := { keyed.mxs with
      pending := [⟨20, true, 7, .scan⟩], queue := List.replicate 16 ⟨5, true, 1, .scan⟩, stalled := true } }

theorem witness_OutboundQueues_waiting :
    (crowded.lnk.tx = none ∧ crowded.lnk.hrdy = true ∧ crowded.lnk.urgent = [] ∧
      crowded.lnk.notices = .lid true :: List.replicate 15 (.lid true) ∧
      crowded.holds (crowded.lnk.phases.getD ((crowded.lnk.pointer + 2) % 16) .reply) = true ∧
      (∀ j, j < 2 → crowded.holds (crowded.lnk.phases.getD ((crowded.lnk.pointer + j) % 16) .reply) = false) ∧
      crowded.lnk.phases.getD ((crowded.lnk.pointer + 2) % 16) .reply = .notice ∧
      (let u := crowded.setLnk { crowded.lnk with
        notices := List.replicate 15 (.lid true), overrun := false, pointer := 3, tx := crowded.consult.lnk.tx }
       ∃ v, u.tryAction = some v ∧ v.tryAction = none ∧ v.tryHandOff = none)) ∧
      (loosening.lnk.tx = none ∧ loosening.lnk.urgent = [] ∧ loosening.mxs.stalled = true ∧
        (loosening.mxs.queue.drop 8).length ≤ loosening.settingN .keyQLower ∧
        loosening.holds (loosening.lnk.phases.getD ((loosening.lnk.pointer + 1) % 16) .reply) = true ∧
        (∀ j, j < 1 → loosening.holds (loosening.lnk.phases.getD ((loosening.lnk.pointer + j) % 16) .reply) = false) ∧
        loosening.lnk.phases.getD ((loosening.lnk.pointer + 1) % 16) .reply = .key ∧
        (let u := (loosening.setLnk { loosening.lnk with pointer := 2, tx := loosening.consult.lnk.tx }).setMxs
          { loosening.mxs with queue := loosening.mxs.queue.drop 8, stalled := false }
         ∃ v, u.tryHandOff = some v ∧ v.tryAction = none ∧ v.tryHandOff = none)) :=
  ⟨⟨rfl, rfl, rfl, rfl, by decide, by decide, by decide, _, rfl, by decide, by decide⟩,
    rfl, rfl, rfl, by decide, by decide, by decide, by decide, _, rfl, by decide, by decide⟩

theorem witness_CloseOfAnEvent :
    running.permissionInputs = running.permissionInputs ∧
      (running.mxs.resyncDue = true → running.mxs.resyncDue = true) ∧ running.lnk.hrdy = false ∧
      ∀ p, pollPeriod running.psq.state (running.pack p) = pollPeriod running.psq.state (running.pack p) :=
  ⟨rfl, id, rfl, fun _ => rfl⟩

/-- A held start whose permission has come; a reply that has joined; a resync that has come due. -/
theorem witness_CloseOfAnEvent_effects :
    (permitted.psq.held.isSome = true ∧ permitted.permission = true ∧ permitted.permissionInputs ≠ holding.permissionInputs) ∧
      (let s := (idle Lnk.initial).answered 0x01 1 0 []
       let b := idle Lnk.initial
       s.permissionInputs = b.permissionInputs ∧ s.mxs.resyncDue = false ∧ s.lnk.replies ≠ b.lnk.replies ∧
         s.consult.mxs.resyncDue = false ∧
         ∀ p, pollPeriod s.consult.psq.state (s.consult.pack p) = pollPeriod b.psq.state (b.pack p)) ∧
      (flagged.permissionInputs = keyed.permissionInputs ∧ flagged.mxs.resyncDue = true ∧ keyed.mxs.resyncDue = false ∧
        flagged.mxs.keys.length = 144 ∧ flagged.lnk.canStart = false ∧
        ∀ p, pollPeriod flagged.runResync.psq.state (flagged.runResync.pack p) =
          pollPeriod keyed.psq.state (keyed.pack p)) := by
  refine ⟨by decide, ⟨rfl, by decide, by decide, by decide, fun p => by cases p <;> decide⟩, rfl, by decide +kernel,
    by decide +kernel, by decide +kernel, rfl, fun p => by cases p <;> decide +kernel⟩

end Sys2Proof.Tests
end

/-! ## The aggregate and the derate factor: O42 and O43 (sections 4.2 and 4.4) -/

namespace Sys2Proof.Machine

section Aggregate

/-! ### The fold over the included sensors (R76) -/

/-- What a running result of the fold says about the sensors met so far (R76): a value is the largest and the first sensor that
reads it, a mark is the first mark where no sensor met is VALID, and PENDING has met nothing but PENDING sensors. -/
def Fold.Describes (slots : PerSensor SensorSlot) (met : List (Fin 4)) : Fold → Prop
  | .value v n =>
      (n ∈ met ∧ (slots.get n).cond = .valid ∧ (slots.get n).value.getD 0 = v) ∧
      ∀ m ∈ met, (slots.get m).cond = .valid →
        (slots.get m).value.getD 0 ≤ v ∧ ((slots.get m).value.getD 0 = v → n ≤ m)
  | .mark n c =>
      (n ∈ met ∧ (slots.get n).cond = .marked ∧ (slots.get n).mark.getD .openWire = c) ∧
      ∀ m ∈ met, (slots.get m).cond ≠ .valid ∧ ((slots.get m).cond = .marked → n ≤ m)
  | .pending => ∀ m ∈ met, (slots.get m).cond = .pending

variable {slots : PerSensor SensorSlot}

theorem Fold.describes_first (n : Fin 4) : Fold.Describes slots [n] ((slots.get n).folded n) := by
  cases h : (slots.get n).cond <;> simp [SensorSlot.folded, Fold.Describes, h]

/-- A VALID sensor that reads above every VALID sensor before it is the new result. -/
theorem Fold.describes_greatest {met : List (Fin 4)} {n : Fin 4} (hn : (slots.get n).cond = .valid)
    (hbelow : ∀ m ∈ met, (slots.get m).cond = .valid → (slots.get m).value.getD 0 < (slots.get n).value.getD 0) :
    (Fold.value ((slots.get n).value.getD 0) n).Describes slots (met ++ [n]) := by
  simp only [Fold.Describes, List.forall_mem_append, List.forall_mem_singleton]
  exact ⟨by simp [hn], fun m hm hv => ⟨Int.le_of_lt (hbelow m hm hv), fun he => absurd he (Int.ne_of_lt (hbelow m hm hv))⟩, by simp⟩

/-- Meeting a sensor that comes after all sensors met keeps the description. -/
theorem Fold.Describes.meet {met : List (Fin 4)} {acc : Fold} {n : Fin 4} (hacc : acc.Describes slots met)
    (hlast : ∀ m ∈ met, m < n) : (acc.meet ((slots.get n).folded n)).Describes slots (met ++ [n]) := by
  cases acc with
  | value v a =>
    obtain ⟨⟨ha, hcond, hval⟩, hmax⟩ := hacc
    have hmem : a ∈ met ++ [n] := List.mem_append_left _ ha
    cases hn : (slots.get n).cond with
    | valid =>
      by_cases hlt : v < (slots.get n).value.getD 0 <;> simp only [SensorSlot.folded, hn, Fold.meet, hlt, if_true, if_false]
      · exact describes_greatest hn fun m hm hv => Int.lt_of_le_of_lt (hmax m hm hv).1 hlt
      · exact ⟨⟨hmem, hcond, hval⟩, List.forall_mem_append.mpr ⟨hmax, by simp [Int.not_lt.mp hlt, Fin.le_of_lt (hlast a ha)]⟩⟩
    | pending | marked =>
      simp only [SensorSlot.folded, hn, Fold.meet]
      exact ⟨⟨hmem, hcond, hval⟩, List.forall_mem_append.mpr ⟨hmax, by simp [hn]⟩⟩
  | mark a c =>
    obtain ⟨⟨ha, hcond, hmark⟩, hfirst⟩ := hacc
    cases hn : (slots.get n).cond <;> simp only [SensorSlot.folded, hn, Fold.meet]
    case valid => exact describes_greatest hn fun m hm hv => absurd hv (hfirst m hm).1
    case pending | marked =>
      exact ⟨⟨List.mem_append_left _ ha, hcond, hmark⟩,
        List.forall_mem_append.mpr ⟨hfirst, by simp [hn, Fin.le_of_lt (hlast a ha)]⟩⟩
  | pending =>
    have hpend : ∀ m ∈ met, (slots.get m).cond = .pending := hacc
    cases hn : (slots.get n).cond <;> simp only [SensorSlot.folded, hn, Fold.meet]
    case valid => exact describes_greatest hn fun m hm hv => by simp [hpend m hm] at hv
    case marked => exact ⟨by simp [hn], List.forall_mem_append.mpr ⟨fun m hm => by simp [hpend m hm], by simp [hn]⟩⟩
    case pending => exact List.forall_mem_append.mpr ⟨hpend, by simp [hn]⟩

theorem Fold.Describes.foldl (ns : List (Fin 4)) : ∀ {met : List (Fin 4)} {acc : Fold}, acc.Describes slots met →
    (met ++ ns).Pairwise (· < ·) →
    (ns.foldl (fun acc k => acc.meet ((slots.get k).folded k)) acc).Describes slots (met ++ ns) := by
  induction ns with
  | nil => intro met acc hacc _; simpa using hacc
  | cons n ns ih =>
    intro met acc hacc hsorted
    have hlast : ∀ m ∈ met, m < n := fun m hm => (List.pairwise_append.mp hsorted).2.2 m hm n (by simp)
    simpa using ih (hacc.meet hlast) (by simpa using hsorted)

/-- The fold of sensors listed in index order describes them all (R76). -/
theorem foldSensors_describes {l : List (Fin 4)} (hsorted : l.Pairwise (· < ·)) :
    (foldSensors slots l).Describes slots l := by
  cases l with
  | nil => simp [foldSensors, Fold.Describes]
  | cons n ns => exact (Fold.describes_first n).foldl ns hsorted

@[simp] theorem State.mem_includedSensors (s : State) (n : Fin 4) : n ∈ s.includedSensors ↔ s.included n = true := by
  have hall : ∀ n : Fin 4, n ∈ [0, 1, 2, 3] := by decide
  simp [State.includedSensors, -List.mem_cons, hall n]

theorem State.includedSensors_sorted (s : State) : s.includedSensors.Pairwise (· < ·) :=
  List.Pairwise.filter _ (by decide)

/-! ### The three outcomes of the fold -/

/-- What R76 says of the included sensors where the aggregate is the one given. -/
def State.AggregateIs (s : State) : Aggregate → Prop
  | .valid v n =>
      s.included n = true ∧ (s.thm.slots.get n).cond = .valid ∧ (s.thm.slots.get n).value.getD 0 = v ∧
        ∀ m, s.included m = true → (s.thm.slots.get m).cond = .valid →
          (s.thm.slots.get m).value.getD 0 ≤ v ∧ ((s.thm.slots.get m).value.getD 0 = v → n ≤ m)
  | .invalid n c =>
      (∀ m, s.included m = true → (s.thm.slots.get m).cond = .marked ∧ n ≤ m) ∧
        s.included n = true ∧ (s.thm.slots.get n).mark.getD .openWire = c
  | .pending =>
      (∀ m, s.included m = true → (s.thm.slots.get m).cond ≠ .valid) ∧
        ((∃ m, s.included m = true ∧ (s.thm.slots.get m).cond = .pending) ∨ ∀ m, s.included m = false)

theorem State.aggregateIs_fold (s : State) : s.AggregateIs s.fold := by
  have hdesc := foldSensors_describes (slots := s.thm.slots) s.includedSensors_sorted
  unfold State.fold
  cases hfold : foldSensors s.thm.slots s.includedSensors <;>
    simp only [hfold, Fold.Describes, State.mem_includedSensors] at hdesc
  case value v n =>
    obtain ⟨⟨hn, hcond, hval⟩, hmax⟩ := hdesc
    exact ⟨hn, hcond, hval, hmax⟩
  case pending =>
    refine ⟨fun m hm => by simp [hdesc m hm], ?_⟩
    by_cases hsome : ∃ m, s.included m = true
    · obtain ⟨m, hm⟩ := hsome
      exact .inl ⟨m, hm, hdesc m hm⟩
    · exact .inr (by simpa using hsome)
  case mark n c =>
    obtain ⟨⟨hn, hcond, hmark⟩, hfirst⟩ := hdesc
    by_cases hpend : ∃ m, s.included m = true ∧ (s.thm.slots.get m).cond = .pending
    · simp only [List.any_eq_true, State.mem_includedSensors, beq_iff_eq, hpend, if_true]
      exact ⟨fun m hm => (hfirst m hm).1, .inl hpend⟩
    · simp only [List.any_eq_true, State.mem_includedSensors, beq_iff_eq, hpend, if_false]
      have hmarked : ∀ m, s.included m = true → (s.thm.slots.get m).cond = .marked := by
        intro m hm
        cases hc : (s.thm.slots.get m).cond with
        | valid => exact absurd hc (hfirst m hm).1
        | pending => exact absurd ⟨m, hm, hc⟩ hpend
        | marked => rfl
      exact ⟨fun m hm => ⟨hmarked m hm, (hfirst m hm).2 (hmarked m hm)⟩, hn, hmark⟩

/-! No two aggregates are described at once: VALID excludes the others, then INVALID excludes PENDING. -/

theorem State.AggregateIs.eq_valid {s : State} {v : Int} {n : Fin 4} {a : Aggregate} (hvalid : s.AggregateIs (.valid v n))
    (ha : s.AggregateIs a) : a = .valid v n := by
  obtain ⟨hn, hcond, hval, hmax⟩ := hvalid
  cases a with
  | valid w m =>
    obtain ⟨hm, hcond', hval', hmax'⟩ := ha
    have hvw : w = v := Int.le_antisymm (hval' ▸ (hmax m hm hcond').1) (hval ▸ (hmax' n hn hcond).1)
    have hnm : m = n := Fin.le_antisymm ((hmax' n hn hcond).2 (hval.trans hvw.symm)) ((hmax m hm hcond').2 (hval'.trans hvw))
    rw [hvw, hnm]
  | invalid m c =>
    obtain ⟨hmarked, -⟩ := ha
    exact absurd (hcond.symm.trans (hmarked n hn).1) (by decide)
  | pending =>
    obtain ⟨hnone, -⟩ := ha
    exact absurd hcond (hnone n hn)

theorem State.AggregateIs.eq_invalid {s : State} {n : Fin 4} {c : SensorCause} {a : Aggregate}
    (hinvalid : s.AggregateIs (.invalid n c)) (ha : s.AggregateIs a) : a = .invalid n c := by
  cases a with
  | valid w m => exact (ha.eq_valid hinvalid).symm
  | invalid m d =>
    obtain ⟨hmarked, hn, hmark⟩ := hinvalid
    obtain ⟨hmarked', hm, hmark'⟩ := ha
    obtain rfl : m = n := Fin.le_antisymm (hmarked' n hn).2 (hmarked m hm).2
    rw [← hmark, ← hmark']
  | pending =>
    obtain ⟨hmarked, hn, -⟩ := hinvalid
    obtain ⟨-, ⟨m, hm, hpend⟩ | hempty⟩ := ha
    · exact absurd (hpend.symm.trans (hmarked m hm).1) (by decide)
    · exact absurd hn (by simp [hempty n])

theorem State.AggregateIs.unique {s : State} {a b : Aggregate} (ha : s.AggregateIs a) (hb : s.AggregateIs b) : b = a := by
  cases a with
  | valid v n => exact ha.eq_valid hb
  | invalid n c => exact ha.eq_invalid hb
  | pending =>
    cases b with
    | valid w m => exact (hb.eq_valid ha).symm
    | invalid m d => exact (hb.eq_invalid ha).symm
    | pending => rfl

/-- The fold is the one aggregate that R76 describes. -/
theorem State.fold_eq_iff (s : State) (a : Aggregate) : s.fold = a ↔ s.AggregateIs a :=
  ⟨fun h => h ▸ s.aggregateIs_fold, fun h => h.unique s.aggregateIs_fold⟩

/-- SENSOR_INCLUDE's range is 1 to 15, so that one of its bits 0 to 3 is set. -/
theorem State.exists_included {s : State} (hs : s.sst.settings.Valid) : ∃ n, s.included n = true := by
  have hbit : ∀ k < 16, k ≠ 0 → ∃ n : Fin 4, k.testBit n.val = true := by decide
  have hrange : 1 ≤ s.setting .sensorInclude ∧ s.setting .sensorInclude ≤ 15 := hs.range .sensorInclude
  have hnat : s.settingN .sensorInclude = (s.setting .sensorInclude).toNat := rfl
  exact hbit (s.settingN .sensorInclude) (by omega) (by omega)

end Aggregate

/-- Settles O42: the fold in index order describes the sensors met so far, and R76's descriptions exclude each other. -/
theorem aggregateFold : Obligations.AggregateFold :=
  ⟨fun _ _ => rfl, fun _ => State.exists_included, fun s v n => s.fold_eq_iff (.valid v n),
    fun s n c => s.fold_eq_iff (.invalid n c), fun s => s.fold_eq_iff .pending⟩

section Derate

/-! ### The derate factor (R81) -/

variable {agg : Aggregate} {start finish v : Int} {n : Fin 4}

theorem derateBase_of_not_valid (h : ∀ v n, agg ≠ .valid v n) : derateBase agg start finish = 0 := by
  cases agg with
  | valid v n => exact absurd rfl (h v n)
  | invalid | pending => rfl

theorem derateBase_of_end_le (h : finish ≤ v) : derateBase (.valid v n) start finish = 0 := by
  simp [derateBase, h]

theorem derateBase_of_le_start (h : v ≤ start) (hlt : v < finish) : derateBase (.valid v n) start finish = 256 := by
  simp [derateBase, h, Int.not_le.mpr hlt]

theorem derateBase_of_between (hlo : start < v) (hhi : v < finish) :
    (derateBase (.valid v n) start finish : Int) = 256 * (finish - v) / (finish - start) := by
  have hnonneg : 0 ≤ 256 * (finish - v) / (finish - start) := Int.ediv_nonneg (by omega) (by omega)
  simp [derateBase, Int.not_le.mpr hlo, Int.not_le.mpr hhi, Int.toNat_of_nonneg hnonneg]

theorem derateBase_le (agg : Aggregate) (start finish : Int) : derateBase agg start finish ≤ 256 := by
  cases agg with
  | invalid | pending => simp [derateBase]
  | valid v n =>
    rcases Int.lt_or_le v finish with hend | hend
    · rcases Int.lt_or_le start v with hstart | hstart
      · have hquot : 256 * (finish - v) / (finish - start) ≤ 256 := Int.ediv_le_of_le_mul (by omega) (by omega)
        have hbase := derateBase_of_between (n := n) hstart hend
        omega
      · exact Nat.le_of_eq (derateBase_of_le_start hstart hend)
    · simp [derateBase_of_end_le hend]

theorem State.allDegraded_iff (s : State) :
    s.allDegraded = true ↔ ∀ f, s.hasFan f = true → (s.fnc.fans.get f).degraded = true := by
  have hboth : (∀ f, s.hasFan f = true → (s.fnc.fans.get f).degraded = true) ↔
      s.fnc.fans.f0.degraded = true ∧ (s.hasFan .f1 = true → s.fnc.fans.f1.degraded = true) :=
    ⟨fun h => ⟨h .f0 rfl, h .f1⟩, fun ⟨h0, h1⟩ f => match f with | .f0 => fun _ => h0 | .f1 => h1⟩
  rw [hboth]
  cases h : s.hasFan .f1 <;> simp [State.allDegraded, h]

theorem State.anyDegraded_iff (s : State) :
    s.anyDegraded = true ↔ ∃ f, s.hasFan f = true ∧ (s.fnc.fans.get f).degraded = true := by
  have heither : (∃ f, s.hasFan f = true ∧ (s.fnc.fans.get f).degraded = true) ↔
      s.fnc.fans.f0.degraded = true ∨ (s.hasFan .f1 = true ∧ s.fnc.fans.f1.degraded = true) :=
    ⟨fun ⟨f, hf, hdeg⟩ => match f with | .f0 => .inl hdeg | .f1 => .inr ⟨hf, hdeg⟩,
      fun h => h.elim (fun h0 => ⟨.f0, rfl, h0⟩) (fun h1 => ⟨.f1, h1⟩)⟩
  rw [heither]
  simp [State.anyDegraded]

/-- D before the fans are counted (R81). -/
def State.derateBeforeFans (s : State) : Nat :=
  derateBase s.thm.aggregate (s.setting .derateStart) (s.setting .derateEnd)

theorem State.derateFactor_of_all {s : State} (h : s.allDegraded = true) : s.derateFactor = 0 := by
  simp [State.derateFactor, h]

theorem State.derateFactor_of_some {s : State} (hany : s.anyDegraded = true) (hall : s.allDegraded ≠ true) :
    s.derateFactor = s.derateBeforeFans / 2 := by
  simp [State.derateFactor, State.derateBeforeFans, hany, hall]

theorem State.derateFactor_of_none {s : State} (hany : s.anyDegraded ≠ true) (hall : s.allDegraded ≠ true) :
    s.derateFactor = s.derateBeforeFans := by
  simp [State.derateFactor, State.derateBeforeFans, hany, hall]

end Derate

/-- Settles O43, with D before fans from `derateBase` and the fan step by how many present fans are degraded. -/
theorem derateFactor : Obligations.DerateFactor := by
  intro s hs
  have hdist : s.setting .derateStart + 10 ≤ s.setting .derateEnd := hs.derate
  refine ⟨s.derateBeforeFans, derateBase_of_not_valid, fun v n hv => ?_, ⟨rfl, Iff.rfl⟩, fun hnone => ?_, ?_,
    fun hall => State.derateFactor_of_all (s.allDegraded_iff.mpr hall)⟩
  · rw [State.derateBeforeFans, hv]
    exact ⟨derateBase_of_end_le, fun h => derateBase_of_le_start h (by omega), derateBase_of_between⟩
  · have hf0 : s.fnc.fans.f0.degraded = false := hnone .f0 rfl
    have hany : s.anyDegraded ≠ true := by
      rw [Ne, s.anyDegraded_iff]
      rintro ⟨f, hf, hdeg⟩
      simp [hnone f hf] at hdeg
    exact State.derateFactor_of_none hany (by simp [State.allDegraded, hf0])
  · rintro ⟨f, g, hf, hg, hdeg, hgood⟩
    have hall : s.allDegraded ≠ true := fun h => by simp [s.allDegraded_iff.mp h g hg] at hgood
    have hhalf := State.derateFactor_of_some (s.anyDegraded_iff.mpr ⟨f, hf, hdeg⟩) hall
    have hbase : s.derateBeforeFans ≤ 256 := derateBase_le _ _ _
    exact ⟨hhalf, by omega⟩

end Sys2Proof.Machine

/-! ## Reading a setting: O34 (section 10.2) -/

namespace Sys2Proof.Machine

section SettingRead

/-! ### The fields of a payload and a reply (R187) -/

theorem leBytes_leNat (bs : List Byte) : leBytes bs.length (leNat bs) = bs := by
  induction bs with
  | nil => rfl
  | cons b bs ih =>
    have hb : b.toNat < 256 := b.isLt
    have hlow : BitVec.ofInt 8 ((leNat (b :: bs) : Nat) : Int) = b := by
      rw [BitVec.ofInt_natCast]
      apply BitVec.eq_of_toNat_eq
      rw [BitVec.toNat_ofNat, leNat]
      omega
    have hhigh : ((leNat (b :: bs) : Nat) : Int) / 256 = (leNat bs : Nat) := by
      rw [leNat]
      omega
    rw [List.length_cons, leBytes, hlow, hhigh, ih]

theorem u8_eq (v : Nat) : u8 v = [BitVec.ofNat 8 v] := by
  simp [u8, leBytes]

theorem fieldAt_two (lo hi : Byte) : fieldAt [lo, hi] 0 2 = lo.toNat + 256 * hi.toNat := rfl

/-- The identifier of a setting's reply repeats the bytes of the request. -/
theorem settingContent_two (lo hi : Byte) (v : Int) :
    settingContent (lo.toNat + 256 * hi.toNat) v = [lo, hi] ++ leBytes 4 v :=
  congrArg (· ++ leBytes 4 v) (leBytes_leNat [lo, hi])

/-! ### What a request is answered (R171, R172) -/

variable {s : State}

/-- The model's reply is the one that the statements spell out. -/
theorem State.reply_eq_answered (s : State) (kind : Nat) (tag : Byte) (st : Status) (content : List Byte) :
    s.reply kind tag st content = s.answered kind tag (statusCode st) content := by
  rw [s.reply_eq, replyTo, u8_eq]
  rfl

/-- With room in the reply queue, a request of the LEN of its kind reaches its block. -/
theorem State.takeFixed_of_hasRoom (hroom : s.hasRoom) {kind len : Nat} {tag : Byte} {payload : List Byte}
    (hlen : payload.length = len) (body : State → State) : s.takeFixed kind tag payload len body = body s := by
  have hfree : ¬ Config.replyCapacity ≤ s.replyCount := Nat.not_le.mpr hroom
  simp [State.takeFixed, State.takeRequest, hfree, hlen]

/-! ### SETTING_READ (R181) -/

theorem State.settingAbsent_iff (s : State) (i : SettingId) :
    s.settingAbsent i = true ↔ (i = .packWeightB ∨ i = .packImaxB) ∧ s.sst.straps.twoPacks = false := by
  simp [State.settingAbsent, State.hasPack]

theorem State.reqSettingRead_of_none (hroom : s.hasRoom) {tag lo hi : Byte}
    (hcode : settingOfCode (lo.toNat + 256 * hi.toNat) = none) :
    s.reqSettingRead tag [lo, hi] = s.answered 0x02 tag 5 [] := by
  rw [State.reqSettingRead, State.takeFixed_of_hasRoom hroom (len := 2) rfl]
  simp only [fieldAt_two, hcode, State.reply_eq_answered, statusCode]

theorem State.reqSettingRead_of_some (hroom : s.hasRoom) {tag lo hi : Byte} {i : SettingId}
    (hcode : settingOfCode (lo.toNat + 256 * hi.toNat) = some i) :
    s.reqSettingRead tag [lo, hi] =
      if s.settingAbsent i then s.answered 0x02 tag 6 [lo, hi, 0, 0, 0, 0]
      else s.answered 0x02 tag 0 ([lo, hi] ++ leBytes 4 (s.setting i)) := by
  rw [State.reqSettingRead, State.takeFixed_of_hasRoom hroom (len := 2) rfl]
  simp only [fieldAt_two, hcode, settingContent_two, State.reply_eq_answered, statusCode]
  rfl

end SettingRead

/-- Settles O34: the reply is read off the identifier's two bytes, which it repeats, and the event closes on it. -/
theorem settingReads : Obligations.SettingReads := by
  intro tag lo hi s hroom
  have hexec : exec (.settingRead tag [lo, hi]) s = .next ((s.reqSettingRead tag [lo, hi]).close s) := rfl
  rw [hexec]
  cases hcode : settingOfCode (lo.toNat + 256 * hi.toNat) with
  | none =>
    rw [State.reqSettingRead_of_none hroom hcode]
    rw [settingOfCode] at hcode
    simp only [hcode]
  | some i =>
    rw [State.reqSettingRead_of_some hroom hcode]
    rw [settingOfCode] at hcode
    simp only [hcode, State.settingAbsent_iff]

end Sys2Proof.Machine
